-- ==== Sys2Proof/Word.lean ====
section
/-! DEFINITION. The words of the KG440 model: bytes, tags, the time base's word, axis and encoder-input numbers,
a fixed group of four like things, and the plainest integer arithmetic (introduction, section 6.2). -/

namespace Sys2Proof

/-- One character of a link or of a sensor port. -/
abbrev Byte := BitVec 8

/-- A host-chosen 16-bit identifier (introduction, section 5: "tag"). -/
abbrev Tag := BitVec 16

/-- A value of the microsecond time base, which wraps (R133). -/
abbrev Time := BitVec 32

/-- An axis number 0..3. -/
abbrev Axis := Fin 4

/-- An encoder input number 0..3, independent of axis numbers. -/
abbrev Input := Fin 4

/-- A set of axis numbers, bit n standing for axis n. -/
abbrev AxisMask := BitVec 4

/-- Four like things, numbered 0..3: the axes, the encoder inputs, the marks of an axis. -/
structure Four (α : Type) where
  f0 : α
  f1 : α
  f2 : α
  f3 : α
  deriving DecidableEq, Repr

/-- All four entries equal. -/
def Four.fill {α : Type} (x : α) : Four α := ⟨x, x, x, x⟩

/-- The entry of a number. -/
def Four.get {α : Type} (v : Four α) (i : Fin 4) : α :=
  match i with
  | 0 => v.f0
  | 1 => v.f1
  | 2 => v.f2
  | 3 => v.f3

/-- The group with one entry replaced. -/
def Four.set {α : Type} (v : Four α) (i : Fin 4) (x : α) : Four α :=
  match i with
  | 0 => { v with f0 := x }
  | 1 => { v with f1 := x }
  | 2 => { v with f2 := x }
  | 3 => { v with f3 := x }

/-- Every entry changed by one function. -/
def Four.map {α β : Type} (f : α → β) (v : Four α) : Four β := ⟨f v.f0, f v.f1, f v.f2, f v.f3⟩

/-- The axes in ascending order. -/
def allAxes : List Axis := [0, 1, 2, 3]

/-- `x` limited to the closed interval from `lo` to `hi` (introduction, section 6.2). -/
def clamp (x lo hi : Int) : Int := if x < lo then lo else if hi < x then hi else x

/-- "floor" of a quotient: rounding toward minus infinity (introduction, section 6.2). -/
def floorDiv (x y : Int) : Int := Int.fdiv x y

/-- "trunc" of a quotient: rounding toward zero (introduction, section 6.2). -/
def truncDiv (x y : Int) : Int := Int.tdiv x y

/-- sign(x), one of -1, 0 and +1. -/
def signOf (x : Int) : Int := if x < 0 then -1 else if 0 < x then 1 else 0

/-- |x|. -/
def magnitude (x : Int) : Int := if x < 0 then -x else x

end Sys2Proof
end

