-- ==== Sys2Proof/Syntax.lean ====
section
/-! DEFINITION. The commands of the KG440: one constructor per row of the table of operations and events, with the
operands the row's step takes from outside.  A request row carries the TAG and the payload bytes of its link frame
(R149, R157), so that a wrong LEN (R148) can be expressed; a character row carries the character; a detector row
whose raises may be taken in any order among themselves and among other events (R119) carries an order: the axes whose
raises are taken at once, while those on the other axes wait (log entry 9). -/

namespace Sys2Proof

/-- The ten fault kinds (chapter 7, section 7.1). -/
inductive FaultKind where
  | overcurrent
  | sensorStall
  | tracking
  | saturation
  | limitOverrun
  | busUndervolt
  | busOvervolt
  | linkSilence
  | stopLine
  | encoderFault
  deriving DecidableEq, Repr

/-- The two sensor ports (R21). -/
inductive SensorPort where
  | head
  | vehicle
  deriving DecidableEq, Repr

/-- A command: one step of the device. -/
inductive Instr where
  /-- End of a power-on reset, with the STOP_N line low or high and the FSYNC level sampled there (R20, R114, R135). -/
  | powerOnReset (stopLow fsyncHigh : Bool)
  /-- The character that completes a link frame, its second CRC byte (R144 to R147). -/
  | linkFrameComplete (c : Byte)
  /-- The 2 ms gap of a link frame expires (R144). -/
  | linkFrameGap
  /-- A link character with a low stop bit (R144). -/
  | linkFramingError
  /-- Processing of a request whose TYPE is not known (R148). -/
  | unknownType (type : Byte) (tag : Tag) (payload : List Byte)
  | identify (tag : Tag) (payload : List Byte)
  | readStatus (tag : Tag) (payload : List Byte)
  | readAxis (tag : Tag) (payload : List Byte)
  | setDevice (tag : Tag) (payload : List Byte)
  | configureAxis (tag : Tag) (payload : List Byte)
  | setGains (tag : Tag) (payload : List Byte)
  | setReaction (tag : Tag) (payload : List Byte)
  | setMark (tag : Tag) (payload : List Byte)
  | setTelemetry (tag : Tag) (payload : List Byte)
  | arm (tag : Tag) (payload : List Byte)
  | disarm (tag : Tag) (payload : List Byte)
  | stop (tag : Tag) (payload : List Byte)
  | clearFaults (tag : Tag) (payload : List Byte)
  | biasCapture (tag : Tag) (payload : List Byte)
  | driveTest (tag : Tag) (payload : List Byte)
  | reset (tag : Tag) (payload : List Byte)
  | queueSegment (tag : Tag) (payload : List Byte)
  | flush (tag : Tag) (payload : List Byte)
  /-- The last character of the frame being sent ends (R152, R154). -/
  | transmitComplete
  /-- The character that completes an accepted head frame (R21, R22). -/
  | headSampleFrame (c : Byte)
  /-- The character that completes an accepted vehicle frame (R21, R23). -/
  | vehicleSampleFrame (c : Byte)
  /-- More than 50 µs without a character inside a sensor frame (R21). -/
  | sensorFrameGap (port : SensorPort)
  /-- 2 ms without a head frame (R24); the raises on the axes of the order are taken in it. -/
  | headStale (order : List Axis)
  /-- 20 ms without a vehicle frame (R25). -/
  | vehicleLost
  /-- The settle timer expires (R38). -/
  | settleTimerExpiry
  /-- The shock window end is reached (R39). -/
  | shockWindowEnd
  /-- A sample of the two phase lines of an encoder input (R26). -/
  | encoderTransition (input : Input) (a b : Bool)
  /-- A sample in which both phases differ from the previous one (R27). -/
  | illegalTransition (input : Input)
  /-- The illegal-transition hold of an input expires (R27). -/
  | illegalHoldExpiry (input : Input)
  /-- A rising edge of the index line of an input (R29). -/
  | indexEdge (input : Input)
  /-- The periodic update of an axis (R69). -/
  | axisUpdate (axis : Axis)
  /-- A raise of a fault kind on an axis (R119). -/
  | faultRaise (axis : Axis) (kind : FaultKind)
  /-- The arming timer of an axis expires (R10). -/
  | armingTimerExpiry (axis : Axis)
  /-- The engage timer of an axis expires (R14). -/
  | engageTimerExpiry (axis : Axis)
  /-- The end time of the drive test of an axis is reached (R19). -/
  | driveTestEnd (axis : Axis)
  /-- The stream timer of an axis expires (R64). -/
  | streamLapse (axis : Axis)
  /-- The link silence timer expires (R153); the raises on the axes of the order are taken in it. -/
  | linkSilence (order : List Axis)
  /-- The filtered FSYNC takes a level (R135, R136). -/
  | frameSyncEdge (level : Bool)
  /-- The sync loss timer expires (R137). -/
  | syncLost
  /-- The telemetry interval expires (R163). -/
  | telemetry
  /-- A sample of the motor bus in 0.1 V (R111); the raises on the axes of the order are taken in it. -/
  | busSample (reading : Int) (order : List Axis)
  /-- A PWM period boundary of one Drive Stage (R104, R106). -/
  | pwmBoundary (axis : Axis)
  /-- A PWM period centre of one Drive Stage, with the motor current in mA (R108). -/
  | currentSample (axis : Axis) (reading : Int)
  /-- A filtered assertion of STOP_N (R115, R117); the raises on the axes of the order are taken in it. -/
  | stopLineAssertion (order : List Axis)
  /-- A filtered release of STOP_N (R116, R117). -/
  | stopLineRelease
  /-- A character of the link other than one that completes a frame (R144). -/
  | linkCharacter (c : Byte)
  /-- A character of a sensor port (R21). -/
  | sensorCharacter (port : SensorPort) (c : Byte)
  /-- A sensor port character with a low stop bit (R21). -/
  | sensorFramingError (port : SensorPort)
  deriving DecidableEq, Repr

end Sys2Proof
end

