-- ==== Sys2Proof/Decode.lean ====
section
/-! DEFINITION. The commands that a word of bits spells: none.  The KG440 is a block that takes commands from outside;
the table of operations and events gives none of its rows any bits. -/

namespace Sys2Proof

/-- The command a word spells by the table's bits: no row of the table has bits, so every word is rejected. -/
def decodeTableWord (_nbits _w : Nat) : Option Instr := none

end Sys2Proof
end

