-- ==== Sys2Proof/Config.lean ====
section
/-! DEFINITION. The free values of the model: what the manual leaves open, as constants without a body, so that
nothing can be proved about which value they have (guide: "what the manual leaves undefined"). -/

namespace Sys2Proof

/-- The four signed bytes that stand for an angle which four signed bytes cannot hold (free value; log entry 3). -/
opaque Config.angleBeyond32 : Int → BitVec 32

/-- The queue depth carried by a refused QUEUE_SEGMENT whose axis number names no axis (free value; log entry 4). -/
opaque Config.depthOfNoAxis : Byte → Byte

/-- Whether a HOME search that has no recorded start angle is taken to have travelled beyond its cap, from the
setpoint angle and the cap (free value; log entry 5). -/
opaque Config.travelWithoutStart : Int → Int → Bool

/-- The n-th free choice among events of the device that fall together (free value; log entry 6). -/
opaque Config.freeChoice : Nat → Nat

/-- The order in which the n-th detector event of the device's own clock makes its raises (free value; log entry 6). -/
opaque Config.freeOrder : Nat → List Axis

/-- The n-th bus reading the device takes by its own clock (free value; log entry 6). -/
opaque Config.freeBusReading : Nat → Int

/-- The n-th motor current reading the device takes by its own clock (free value; log entry 6). -/
opaque Config.freeCurrentReading : Nat → Int

end Sys2Proof
end

