-- ==== Sys2Proof/Machine/State.lean ====
section
/-! DEFINITION. The state of the KG440 as plain data: every piece of state the manual gives the device, the state
right after reset, and the reasons a step could stop. -/

namespace Sys2Proof.Machine

/-! ### Chapter 1: configuration and the life cycle -/

/-- The kind of an axis (section 1.2). -/
inductive AxisKind where
  | none
  | inertial
  | joint
  deriving DecidableEq, Repr

/-- The axis configuration record (section 1.2), each field as stored: codes that no test judges are kept as carried
(log entry 7). -/
structure AxisRecord where
  kind : AxisKind
  /-- T in µs -/
  period : Int
  gyroChannel : Byte
  gyroSign : Byte
  encoder : Byte
  num : Int
  den : Int
  indexRef : Int
  limMin : Int
  limMax : Int
  margin : Int
  /-- Ω_max -/
  rateLimit : Int
  /-- a_max -/
  accelLimit : Int
  /-- ε -/
  window : Int
  /-- E_max -/
  errClamp : Int
  trackLimit : Int
  /-- ms -/
  trackTime : Int
  /-- T_lim -/
  torque : Int
  /-- S -/
  slew : Int
  /-- b -/
  bias : Int
  /-- ms -/
  satTime : Int
  /-- mA -/
  trip : Int
  /-- ns -/
  deadTime : Int
  /-- ms -/
  releaseTime : Int
  /-- ms -/
  engageTime : Int
  vehChannel : Byte
  vehSign : Byte
  /-- Kf -/
  ffGain : Int
  /-- k -/
  tap : Int
  shockRide : Byte
  deriving DecidableEq, Repr

/-- The record of a DISABLED axis: kind NONE with every other field zero (R5, R20). -/
def AxisRecord.zero : AxisRecord :=
  { kind := .none, period := 0, gyroChannel := 0, gyroSign := 0, encoder := 0, num := 0, den := 0, indexRef := 0
    limMin := 0, limMax := 0, margin := 0, rateLimit := 0, accelLimit := 0, window := 0, errClamp := 0
    trackLimit := 0, trackTime := 0, torque := 0, slew := 0, bias := 0, satTime := 0, trip := 0, deadTime := 0
    releaseTime := 0, engageTime := 0, vehChannel := 0, vehSign := 0, ffGain := 0, tap := 0, shockRide := 0 }

/-- The intent of STOPPING (R13). -/
inductive Intent where
  | stop
  | fault
  | disarm
  deriving DecidableEq, Repr

/-- The phase of STOPPING (R13, R14). -/
inductive Phase where
  | decel
  | engage
  deriving DecidableEq, Repr

/-- The axis state (section 1.4). -/
inductive Life where
  | disabled
  | idle
  | arming
  | tracking
  | stopping (intent : Intent) (phase : Phase)
  | held
  | faulted
  deriving DecidableEq, Repr

/-- A running timer: its start on the time base and its length in µs (R134).  `none` is a timer that does not run. -/
structure Timer where
  start : Time
  len : Nat
  deriving DecidableEq, Repr

/-- A gain set (section 1.3). -/
structure Gains where
  kp : Int
  kr : Int
  ki : Int
  deriving DecidableEq, Repr

inductive GainTarget where
  | hold
  | move
  | both
  deriving DecidableEq, Repr

inductive ApplyMode where
  | now
  | atSegment
  deriving DecidableEq, Repr

/-- A staged gain record (section 1.3, R6). -/
structure StagedGain where
  target : GainTarget
  gains : Gains
  mode : ApplyMode
  deriving DecidableEq, Repr

/-- The drive-test context (section 1.5). -/
structure DriveTest where
  running : Bool
  demand : Int
  endTime : Time
  peak : Nat
  sum : Nat
  count : Nat
  deriving DecidableEq, Repr

/-! ### Chapter 3: segments, groups, streams -/

inductive SegKind where
  | hold
  | rate
  | goto
  | stream
  | home
  deriving DecidableEq, Repr

inductive Start where
  | immediate
  | sync (delay : Nat)
  deriving DecidableEq, Repr

/-- A segment record as stored (section 3.1).  `value` and `cap` are 0 for a kind that does not use them. -/
structure Segment where
  tag : Tag
  kind : SegKind
  value : Int
  cap : Int
  accel : Int
  /-- ms -/
  duration : Int
  start : Start
  /-- 0, or 1..15 -/
  group : Nat
  members : AxisMask
  notify : Bool
  deriving DecidableEq, Repr

/-- The active segment with what its following adds to it (R48, R49, R66).  Being active is its ACTIVATED flag. -/
structure ActiveSegment where
  seg : Segment
  /-- µs -/
  elapsed : Int
  followed : Bool
  syncMissed : Bool
  deriving DecidableEq, Repr

/-- The lapse state of a stream context (section 3.8). -/
inductive Lapse where
  | clear
  | live
  | lapsed
  deriving DecidableEq, Repr

/-- The stream context of an axis (section 3.8). -/
structure StreamContext where
  rate : Int
  arrival : Option Time
  aged : Bool
  timer : Option Timer
  lapse : Lapse
  deriving DecidableEq, Repr

/-- An open entry of the group table (R56). -/
structure GroupEntry where
  id : Nat
  members : AxisMask
  start : Start
  queued : AxisMask
  arrived : AxisMask
  remaining : Option Nat
  syncMissed : Bool
  deriving DecidableEq, Repr

/-! ### Chapters 2, 4, 5: measurement, setpoint, loop -/

/-- The axis part of the Measurement Unit (chapter 2). -/
structure AxisMeasure where
  /-- θm -/
  theta : Int
  /-- ωm -/
  omega : Int
  inertial : Int
  inertialRem : Int
  /-- the joint rate history, oldest first -/
  history : List Int
  reloadPending : Bool
  deriving DecidableEq, Repr

inductive LimitSide where
  | max
  | min
  deriving DecidableEq, Repr

/-- The state of the Setpoint Generator of an axis (R71). -/
structure Generator where
  /-- θs -/
  theta : Int
  /-- r -/
  rem : Int
  /-- ωs -/
  omega : Int
  /-- w* of the last update -/
  target : Int
  moving : Bool
  homeStart : Option Int
  /-- the limit-stop latch, `none` for NONE -/
  latch : Option LimitSide
  deriving DecidableEq, Repr

inductive Overrun where
  | inside
  | beyond
  | notChecked
  deriving DecidableEq, Repr

/-- The state of the Stabilisation Loop of an axis but for its gain sets (section 5.1). -/
structure Loop where
  /-- A -/
  integ : Int
  uPrev : Int
  uOut : Int
  /-- the sixteen entries of the delay line -/
  line : List Int
  head : Nat
  /-- µs -/
  trackTimer : Int
  /-- µs -/
  satTimer : Int
  saturated : Bool
  moveSet : Bool
  paused : Bool
  overrun : Overrun
  deriving DecidableEq, Repr

/-! ### Chapter 6: drive stage -/

inductive DriveState where
  | run
  | short
  | open
  deriving DecidableEq, Repr

/-- Which switch of a leg is on (R103). -/
inductive LegSide where
  | high
  | low
  | off
  deriving DecidableEq, Repr

/-- What a change of a leg that is past still asks of it (R103, R107; log entry 31), in ns after the last boundary, and
negative for an instant before it. -/
structure LegGuard where
  /-- both switches are off before this instant: the dead time after the high side went off -/
  offUntil : Int
  /-- the high side is off before this instant: the dead time after the low side went off -/
  highFrom : Int
  deriving DecidableEq, Repr

/-- The Drive Stage of an axis (chapter 6), with what the gate outputs need of the present pattern: the dead time
read at the last boundary (R103), and the model's own record of the dead times that still run (log entry 31). -/
structure Drive where
  state : DriveState
  pending : Option DriveState
  handed : Int
  duty : Int
  lastCurrent : Int
  brakeReleased : Bool
  deadTime : Int
  guardA : LegGuard
  guardB : LegGuard
  /-- the boundary at the present instant has not been taken -/
  boundaryDue : Bool
  /-- the centre at the present instant has not been taken -/
  centreDue : Bool
  deriving DecidableEq, Repr

/-! ### Chapter 7: faults -/

/-- The five reaction levels (section 7.2). -/
inductive Level where
  | note
  | derate
  | stop
  | brake
  | open
  deriving DecidableEq, Repr

/-- The number of a level (section 7.2). -/
def Level.code (l : Level) : Nat :=
  match l with
  | .note => 0
  | .derate => 1
  | .stop => 2
  | .brake => 3
  | .open => 4

/-- An entry of an active fault set (section 7.4). -/
structure FaultEntry where
  kind : FaultKind
  level : Level
  count : Nat
  firstRaise : Time
  present : Bool
  deriving DecidableEq, Repr

/-- The reaction table: one stored level for each kind (R121). -/
structure Reactions where
  overcurrent : Level
  sensorStall : Level
  tracking : Level
  saturation : Level
  limitOverrun : Level
  busUndervolt : Level
  busOvervolt : Level
  linkSilence : Level
  stopLine : Level
  encoderFault : Level
  deriving DecidableEq, Repr

/-- Every kind at its default level (section 7.1). -/
def Reactions.default : Reactions :=
  { overcurrent := .open, sensorStall := .brake, tracking := .stop, saturation := .note, limitOverrun := .brake
    busUndervolt := .brake, busOvervolt := .brake, linkSilence := .stop, stopLine := .brake, encoderFault := .brake }

/-! ### Chapter 8: marks -/

inductive MarkDirection where
  | up
  | down
  | either
  deriving DecidableEq, Repr

inductive MarkMode where
  | once
  | repeat
  deriving DecidableEq, Repr

/-- A position mark that is present (section 8.4). -/
structure Mark where
  angle : Int
  direction : MarkDirection
  mode : MarkMode
  enabled : Bool
  deriving DecidableEq, Repr

/-- Everything the device keeps for one axis. -/
structure AxisState where
  life : Life
  cfg : AxisRecord
  hold : Gains
  move : Gains
  staged : Option StagedGain
  armingTimer : Option Timer
  engageTimer : Option Timer
  updateTimer : Option Timer
  test : DriveTest
  active : Option ActiveSegment
  /-- the staged segment and the pending ones behind it, oldest first -/
  waiting : List Segment
  /-- edges remaining of the counting staged segment (R53) -/
  counting : Option Nat
  stream : StreamContext
  meas : AxisMeasure
  gen : Generator
  loop : Loop
  drive : Drive
  /-- the active fault set, oldest first -/
  faults : List FaultEntry
  marks : Four (Option Mark)
  markSkip : Bool
  deriving DecidableEq, Repr

/-- An axis after either reset (R20, R41, R67, R71, R101, R118, R132, R143). -/
def AxisState.reset : AxisState :=
  { life := .disabled
    cfg := .zero
    hold := ⟨0, 0, 0⟩
    move := ⟨0, 0, 0⟩
    staged := none
    armingTimer := none
    engageTimer := none
    updateTimer := none
    test := { running := false, demand := 0, endTime := 0, peak := 0, sum := 0, count := 0 }
    active := none
    waiting := []
    counting := none
    stream := { rate := 0, arrival := none, aged := true, timer := none, lapse := .clear }
    meas := { theta := 0, omega := 0, inertial := 0, inertialRem := 0, history := [0, 0, 0, 0, 0]
              reloadPending := false }
    gen := { theta := 0, rem := 0, omega := 0, target := 0, moving := false, homeStart := none, latch := none }
    loop := { integ := 0, uPrev := 0, uOut := 0, line := [0, 0, 0, 0, 0, 0, 0, 0, 0, 0, 0, 0, 0, 0, 0, 0], head := 0
              trackTimer := 0, satTimer := 0, saturated := false, moveSet := false, paused := false
              overrun := .notChecked }
    drive := { state := .open, pending := none, handed := 0, duty := 0, lastCurrent := 0, brakeReleased := false
               deadTime := 0, guardA := ⟨0, 0⟩, guardB := ⟨0, 0⟩, boundaryDue := false, centreDue := false }
    faults := []
    marks := .fill none
    markSkip := false }

/-! ### Device-wide state -/

inductive StopMode where
  | pause
  | latch
  deriving DecidableEq, Repr

inductive EdgeSelection where
  | off
  | rising
  | falling
  | both
  deriving DecidableEq, Repr

/-- The ten device settings (section 1.1). -/
structure Settings where
  /-- ms -/
  silence : Int
  /-- ms -/
  stream : Int
  stopMode : StopMode
  edge : EdgeSelection
  /-- mg -/
  shockThreshold : Int
  /-- ms -/
  shockWindow : Int
  /-- mdeg/s -/
  stillness : Int
  vDerate : Int
  vCut : Int
  vOver : Int
  deriving DecidableEq, Repr

/-- The defaults of section 1.1. -/
def Settings.default : Settings :=
  { silence := 250, stream := 50, stopMode := .latch, edge := .rising, shockThreshold := 3000, shockWindow := 40
    stillness := 500, vDerate := 440, vCut := 360, vOver := 560 }

/-- A sensor port: the bytes of the frame it assembles, start byte first (empty while hunting), and the time of the
last of them (R21). -/
structure PortState where
  bytes : List Byte
  lastTime : Time
  deriving DecidableEq, Repr

/-- Three rates: X, Y, Z of the head, or YAW, PITCH, ROLL of the vehicle. -/
structure Rates where
  x : Int
  y : Int
  z : Int
  deriving DecidableEq, Repr

/-- The head sample record (R22). -/
structure HeadRecord where
  seq : Option Byte
  rates : Rates
  arrival : Time
  stale : Bool
  deriving DecidableEq, Repr

/-- The vehicle sample record (R23). -/
structure VehicleRecord where
  seq : Option Byte
  rates : Rates
  accelZ : Int
  arrival : Time
  stale : Bool
  deriving DecidableEq, Repr

inductive Validity where
  | invalid
  | settling
  | valid
  deriving DecidableEq, Repr

inductive CaptureMode where
  | long
  | short
  deriving DecidableEq, Repr

/-- The gyro bias and the bias capture (section 2.5). -/
structure BiasUnit where
  bias : Rates
  validity : Validity
  prior : Option Validity
  /-- capture activity, `none` for NONE -/
  activity : Option CaptureMode
  sums : Rates
  count : Nat
  settle : Option Timer
  deriving DecidableEq, Repr

/-- The shock detector (R39). -/
structure Shock where
  active : Bool
  windowEnd : Time
  deriving DecidableEq, Repr

/-- An encoder input (section 2.3): the count, its flags and hold, and the previous sample of its phases. -/
structure Encoder where
  count : BitVec 32
  homed : Bool
  armed : Bool
  hold : Option Timer
  phaseA : Bool
  phaseB : Bool
  deriving DecidableEq, Repr

/-- The Bus Monitor (R111 to R113). -/
structure Bus where
  voltage : Int
  derate : Int
  sampled : Bool
  undervolt : Bool
  overvolt : Bool
  timer : Option Timer
  deriving DecidableEq, Repr

/-- The Stop Line Unit (R114): filtered level, mode of the assertion in force, pause condition. -/
structure StopLine where
  asserted : Bool
  mode : Option StopMode
  pause : Bool
  deriving DecidableEq, Repr

/-- Time Base and Sync (chapter 8) but for the time base itself. -/
structure Sync where
  level : Bool
  frame : BitVec 32
  lastEdge : Option Time
  present : Bool
  lossTimer : Option Timer
  deriving DecidableEq, Repr

/-! ### Chapters 9 and 10: the control link -/

/-- The status codes (R149). -/
inductive Status where
  | ok
  | clamped
  | busy
  | badState
  | badArg
  | queueFull
  | notHomed
  | notCalibrated
  | faultActive
  | groupConflict
  | unknownType
  | badLength
  deriving DecidableEq, Repr

/-- The segment outcomes (R66). -/
inductive SegOutcome where
  | completed
  | superseded
  | flushed
  | timeout
  | homeFailed
  | stoppedByFault
  | groupBroken
  deriving DecidableEq, Repr

/-- The reasons of BIAS_ABORTED (R37). -/
inductive AbortReason where
  | headMotion
  | vehicleMotion
  | shock
  | headStale
  deriving DecidableEq, Repr

inductive Crossing where
  | up
  | down
  deriving DecidableEq, Repr

/-- The kinds of EVENT with their arguments (R164). -/
inductive EventKind where
  | armed (axis : Axis)
  | stopped (axis : Axis)
  | disarmed (axis : Axis)
  | testDone (axis : Axis) (peak mean : Nat) (aborted : Bool)
  | biasDone (mode : CaptureMode) (bias : Rates)
  | biasAborted (mode : CaptureMode) (reason : AbortReason) (samples : Nat)
  | vehicleLost
  | vehicleRestored
  | shock (az : Int)
  | homed (axis : Axis) (input : Input) (angle : Int)
  | limitStop (axis : Axis) (side : LimitSide) (angle : Int)
  | streamLapse (axis : Axis) (tag : Tag)
  | streamResumed (axis : Axis) (tag : Tag)
  | groupBroken (id : Nat)
  | syncLost (frame : BitVec 32) (lastEdge : Option Time)
  | syncRestored (frame : BitVec 32)
  | stopLine (asserted : Bool)
  deriving DecidableEq, Repr

/-- One per-axis entry of a TELEMETRY report (R163). -/
structure TelemetryEntry where
  life : Life
  thetaS : Int
  thetaM : Int
  omegaM : Int
  uOut : Int
  current : Int
  saturated : Bool
  paused : Bool
  moveSet : Bool
  limitStop : Bool
  activeTag : Option Tag
  depth : Nat
  deriving DecidableEq, Repr

/-- The five kinds of report (chapter 9, section 9.4), with the fields their rules list. -/
inductive Report where
  | segment (axis : Axis) (tag : Tag) (outcome : SegOutcome) (syncMissed activated : Bool) (time : Time)
      (frame : BitVec 32)
  | mark (axis : Axis) (id : Fin 4) (crossing : Crossing) (time : Time) (frame : BitVec 32) (angle : Int)
  | fault (axis : Axis) (kind : FaultKind) (level : Level) (count : Nat) (effective : Level) (life : Life)
      (time : Time) (frame : BitVec 32)
  | event (time : Time) (frame : BitVec 32) (kind : EventKind)
  | telemetry (time : Time) (frame : BitVec 32) (shock stopLine : Bool) (voltage : Int) (mask : AxisMask)
      (entries : List TelemetryEntry)
  deriving DecidableEq, Repr

/-- What READ_STATUS reports of one axis (R158). -/
structure AxisStatus where
  life : Life
  /-- `none`: no encoder -/
  homed : Option Bool
  faults : List (FaultKind × Nat)
  effective : Level
  depth : Nat
  activeTag : Option Tag
  deriving DecidableEq, Repr

/-- What READ_STATUS reports (R158). -/
structure DeviceStatus where
  time : Time
  stopAsserted : Bool
  storedMode : StopMode
  modeInForce : Option StopMode
  validity : Validity
  activity : Option CaptureMode
  headPresent : Bool
  vehiclePresent : Bool
  syncPresent : Bool
  shock : Bool
  voltage : Int
  derate : Int
  dropped : Nat
  reportsLost : Bool
  axes : List AxisStatus
  deriving DecidableEq, Repr

/-- What READ_AXIS reports (R160). -/
structure AxisDetail where
  axis : Axis
  cfg : AxisRecord
  hold : Gains
  move : Gains
  stagedFlag : Bool
  marks : Four (Option Mark)
  faults : List FaultEntry
  integ : Int
  uPrev : Int
  thetaS : Int
  rem : Int
  omegaS : Int
  thetaM : Int
  deriving DecidableEq, Repr

/-- The part of a reply payload that follows its status (R149). -/
inductive ReplyBody where
  | alone
  | statuses (list : List Status)
  | kept (list : List (Status × List FaultKind))
  | depth (d : Byte)
  | level (l : Level)
  | identity
  | deviceStatus (v : DeviceStatus)
  | axisDetail (v : AxisDetail)
  deriving DecidableEq, Repr

/-- A reply in a reply slot (R149). -/
structure Reply where
  /-- the request's TYPE -/
  type : Byte
  tag : Tag
  status : Status
  body : ReplyBody
  deriving DecidableEq, Repr

/-- A frame being sent: a reply or a report. -/
inductive Outgoing where
  | reply (r : Reply)
  | report (r : Report)
  deriving DecidableEq, Repr

/-- The transmitter sending one frame, from a start time (R152). -/
structure Sending where
  frame : Outgoing
  start : Time
  deriving DecidableEq, Repr

/-- The states of the receive framer (R144). -/
inductive FramerState where
  | hunt
  | header
  | payload
  | check
  deriving DecidableEq, Repr

/-- The receive framer: its state, the bytes gathered from LEN on, and the time of the last character (R144). -/
structure Framer where
  state : FramerState
  bytes : List Byte
  lastTime : Time
  deriving DecidableEq, Repr

/-- A queued request (R146). -/
structure Request where
  type : Byte
  tag : Tag
  payload : List Byte
  deriving DecidableEq, Repr

/-- The Control Link (chapter 9) with the telemetry state it holds (chapter 10). -/
structure Link where
  framer : Framer
  inbound : List Request
  replies : List Reply
  /-- the report slots held, oldest queued first -/
  reports : List Report
  tx : Option Sending
  dropped : Nat
  reportsLost : Bool
  /-- the link silence timer, `none` when expired -/
  silence : Option Timer
  resetPending : Bool
  /-- the interval code of R162, 0 for OFF -/
  telemetryCode : Nat
  telemetryMask : AxisMask
  telemetryTimer : Option Timer
  deriving DecidableEq, Repr

/-- The whole state of the KG440. -/
structure State where
  settings : Settings
  axes : Four AxisState
  groups : List GroupEntry
  headPort : PortState
  vehiclePort : PortState
  head : HeadRecord
  vehicle : VehicleRecord
  bias : BiasUnit
  shock : Shock
  encoders : Four Encoder
  reactions : Reactions
  /-- the raises that a detector has handed to the Fault Monitor and that wait to be taken (R119; log entry 9) -/
  owed : List (Axis × FaultKind)
  bus : Bus
  stopLine : StopLine
  /-- the time base -/
  time : Time
  sync : Sync
  /-- µs since the last PWM period boundary, 0..49 (R102) -/
  pwmPhase : Nat
  link : Link
  /-- the model's own: how many free choices have been taken -/
  freeCount : Nat
  /-- the model's own: the commands that wait, oldest first -/
  pending : List Instr
  deriving DecidableEq, Repr

/-- An encoder input after a power-on reset with its phase lines at a level (R41). -/
def Encoder.reset (a b : Bool) : Encoder :=
  { count := 0, homed := false, armed := false, hold := none, phaseA := a, phaseB := b }

/-- The Stop Line Unit after either reset: a low line is an assertion in mode LATCH (R114, R118). -/
def StopLine.reset (low : Bool) : StopLine :=
  { asserted := low, mode := if low then some .latch else none, pause := false }

/-- Time Base and Sync after either reset, with the FSYNC level sampled there (R138). -/
def Sync.reset (level : Bool) : Sync :=
  { level := level, frame := 0, lastEdge := none, present := false, lossTimer := none }

/-- The Control Link after either reset (R155, R162). -/
def Link.reset : Link :=
  { framer := { state := .hunt, bytes := [], lastTime := 0 }
    inbound := []
    replies := []
    reports := []
    tx := none
    dropped := 0
    reportsLost := false
    silence := some ⟨0, 250000⟩
    resetPending := false
    telemetryCode := 0
    telemetryMask := 0
    telemetryTimer := none }

/-- The Bus Monitor after either reset: no sample, the first 1 ms later (R111, R118). -/
def Bus.reset : Bus :=
  { voltage := 0, derate := 0, sampled := false, undervolt := false, overvolt := false, timer := some ⟨0, 1000⟩ }

/-- The head record after either reset (R41). -/
def HeadRecord.reset : HeadRecord := { seq := none, rates := ⟨0, 0, 0⟩, arrival := 0, stale := true }

/-- The vehicle record after either reset (R41). -/
def VehicleRecord.reset : VehicleRecord :=
  { seq := none, rates := ⟨0, 0, 0⟩, accelZ := 0, arrival := 0, stale := true }

/-- A sensor port after either reset hunts (R41). -/
def PortState.reset : PortState := { bytes := [], lastTime := 0 }

/-- The bias unit after a power-on reset (R41). -/
def BiasUnit.reset : BiasUnit :=
  { bias := ⟨0, 0, 0⟩, validity := .invalid, prior := none, activity := none, sums := ⟨0, 0, 0⟩, count := 0
    settle := none }

/-- The device right after a power-on reset, with STOP_N released, FSYNC low and every encoder phase low (log
entries 1 and 2 say which of these values the manual does not give). -/
def State.reset : State :=
  { settings := .default
    axes := .fill .reset
    groups := []
    headPort := .reset
    vehiclePort := .reset
    head := .reset
    vehicle := .reset
    bias := .reset
    shock := { active := false, windowEnd := 0 }
    encoders := .fill (.reset false false)
    reactions := .default
    owed := []
    bus := .reset
    stopLine := .reset false
    time := 0
    sync := .reset false
    pwmPhase := 0
    link := .reset
    freeCount := 0
    pending := [] }

/-- The reasons the device stops.  There is none: every command of the KG440 has an effect the manual gives, so this
type has no constructor and no step answers with it (safe: nothing stops where the device goes on). -/
inductive Fault where
  deriving DecidableEq, Repr

/-- The reasons a command has no meaning. -/
inductive Refusal where
  /-- Raised by an arm of `exec` whose command has no meaning yet, by name; no arm raises it now (safe). -/
  | notModelled (mnemonic : String)
  deriving DecidableEq, Repr

end Sys2Proof.Machine
end

