-- ==== Sys2Proof/Machine/Bytes.lean ====
section
/-! DEFINITION. Byte order and bit order of the link and of the sensor ports: multi-byte fields are sent least
significant byte first, the CRC most significant byte first (introduction, section 6.3; R145, R157). -/

namespace Sys2Proof.Machine

/-- The byte at an offset of a list, 0 beyond its end. -/
def byteAt (p : List Byte) (i : Nat) : Byte := p.getD i 0

/-- One unsigned byte. -/
def readU8 (p : List Byte) (i : Nat) : Int := ((byteAt p i).toNat : Int)

/-- Two bytes, unsigned, least significant first. -/
def readU16 (p : List Byte) (i : Nat) : Int := ((byteAt p (i + 1) ++ byteAt p i : BitVec 16).toNat : Int)

/-- Two bytes, signed, least significant first. -/
def readS16 (p : List Byte) (i : Nat) : Int := (byteAt p (i + 1) ++ byteAt p i : BitVec 16).toInt

/-- The 32-bit word at an offset, least significant byte first. -/
def word32 (p : List Byte) (i : Nat) : BitVec 32 :=
  byteAt p (i + 3) ++ byteAt p (i + 2) ++ byteAt p (i + 1) ++ byteAt p i

/-- Four bytes, signed, least significant first. -/
def readS32 (p : List Byte) (i : Nat) : Int := (word32 p i).toInt

/-- A 16-bit word as two bytes, least significant first. -/
def bytesOf16 (w : BitVec 16) : List Byte := [w.setWidth 8, (w >>> 8).setWidth 8]

/-- A 32-bit word as four bytes, least significant first. -/
def bytesOf32 (w : BitVec 32) : List Byte :=
  [w.setWidth 8, (w >>> 8).setWidth 8, (w >>> 16).setWidth 8, (w >>> 24).setWidth 8]

/-- A number in one byte. -/
def put8 (x : Int) : List Byte := [BitVec.ofInt 8 x]

/-- A number in two bytes. -/
def put16 (x : Int) : List Byte := bytesOf16 (BitVec.ofInt 16 x)

/-- A number in four bytes. -/
def put32 (x : Int) : List Byte := bytesOf32 (BitVec.ofInt 32 x)

/-- A two-valued field: 0 clear, 1 set (R157). -/
def putBool (b : Bool) : List Byte := [if b then 1 else 0]

/-- One step of the CRC register for one bit position (R145). -/
def crcBit (r : BitVec 16) : BitVec 16 := if r.msb then (r <<< 1) ^^^ 0x1021#16 else r <<< 1

/-- The CRC register after one byte, most significant bit first (R145). -/
def crcByte (r : BitVec 16) (b : Byte) : BitVec 16 :=
  crcBit (crcBit (crcBit (crcBit (crcBit (crcBit (crcBit (crcBit (r ^^^ (b ++ 0#8)))))))))

/-- The CRC of the bytes from LEN to the last payload byte (R145). -/
def crc16 (p : List Byte) : BitVec 16 := p.foldl crcByte 0xFFFF#16

/-- The 8-bit sum of bytes, as the check of a sensor frame takes it (R21). -/
def byteSum (p : List Byte) : Byte := p.foldl (· + ·) 0

end Sys2Proof.Machine
end

