-- ==== Sys2Proof/Machine/Ops.lean ====
section
/-! DEFINITION. The named operations every block shares: access to one axis and one encoder input, timers, the
outbound queue and the transmitter's choice. -/

namespace Sys2Proof.Machine

/-! ### Axes, inputs, axis masks -/

/-- The state of one axis. -/
def State.axis (s : State) (a : Axis) : AxisState := s.axes.get a

/-- One axis changed by a function. -/
def State.modAxis (s : State) (a : Axis) (f : AxisState → AxisState) : State :=
  { s with axes := s.axes.set a (f (s.axes.get a)) }

/-- Every axis changed by one function. -/
def State.modAxes (s : State) (f : AxisState → AxisState) : State := { s with axes := s.axes.map f }

/-- One encoder input changed by a function. -/
def State.modEncoder (s : State) (i : Input) (f : Encoder → Encoder) : State :=
  { s with encoders := s.encoders.set i (f (s.encoders.get i)) }

/-- Whether an axis mask names an axis. -/
def maskHas (m : AxisMask) (a : Axis) : Bool := m.getLsbD a.val

/-- The mask with one axis added. -/
def maskAdd (m : AxisMask) (a : Axis) : AxisMask := m ||| (1#4 <<< a.val)

/-- The axes of a mask in ascending order. -/
def maskAxes (m : AxisMask) : List Axis := allAxes.filter (maskHas m)

/-- The powered states (introduction, section 5). -/
def Life.powered (l : Life) : Bool :=
  match l with
  | .arming | .tracking | .stopping _ _ | .held => true
  | .disabled | .idle | .faulted => false

/-- A configured axis is one whose state is other than DISABLED. -/
def Life.configured (l : Life) : Bool :=
  match l with
  | .disabled => false
  | _ => true

/-- The encoder input the record of an axis names, when the axis is configured (section 1.2). -/
def AxisState.input (x : AxisState) : Option Input :=
  if x.life.configured then
    if h : x.cfg.encoder.toNat < 4 then some ⟨x.cfg.encoder.toNat, h⟩ else none
  else none

/-- The axis an encoder input is mapped to: the lowest-numbered one, since R3 admits at most one. -/
def State.mappedAxis (s : State) (i : Input) : Option Axis :=
  allAxes.find? fun a => (s.axis a).input == some i

/-- The stop line holds a PAUSE on an axis (R115). -/
def State.pausedAxis (s : State) (a : Axis) : Bool := s.stopLine.pause && (s.axis a).life.powered

/-- The axes that satisfy a test, in ascending order. -/
def State.axesWhere (s : State) (p : AxisState → Bool) : List Axis := allAxes.filter fun a => p (s.axis a)

/-- The axes of a detector's raises that are taken at once, in the order given, each axis once (R119). -/
def raisesNow (order raised : List Axis) : List Axis := order.eraseDups.filter fun a => raised.contains a

/-- The axes of a detector's raises that the order leaves out, which wait (R119). -/
def raisesLater (order raised : List Axis) : List Axis := raised.filter fun a => !order.contains a

/-! ### Timers (R134) -/

/-- A timer started now with a length in ms. -/
def State.startMs (s : State) (ms : Int) : Timer := ⟨s.time, ms.toNat * 1000⟩

/-- (time base - start) modulo 2^32 has reached a length. -/
def elapsedReached (now start : Time) (len : Nat) : Bool := decide (len ≤ (now - start).toNat)

/-- A running timer is due. -/
def timerDue (now : Time) (t : Option Timer) : Bool :=
  match t with
  | none => false
  | some t => elapsedReached now t.start t.len

/-! ### The outbound queue (R151, R152) -/

/-- The report is a TELEMETRY report. -/
def Report.isTelemetry (r : Report) : Bool :=
  match r with
  | .telemetry .. => true
  | _ => false

/-- The report is a FAULT report. -/
def Report.isFault (r : Report) : Bool :=
  match r with
  | .fault .. => true
  | _ => false

/-- A TELEMETRY report finds room: it replaces the one already queued, or takes an empty slot, or is discarded. -/
def Link.putTelemetry (l : Link) (r : Report) : Link :=
  if l.reports.any Report.isTelemetry then
    { l with reports := l.reports.map fun q => if q.isTelemetry then r else q }
  else if l.reports.length < 12 then { l with reports := l.reports ++ [r] }
  else l

/-- Any other report finds room: an empty slot, or the slot of a TELEMETRY report it displaces, or it is lost. -/
def Link.putOther (l : Link) (r : Report) : Link :=
  if l.reports.length < 12 then { l with reports := l.reports ++ [r] }
  else if l.reports.any Report.isTelemetry then
    { l with reports := (l.reports.eraseP Report.isTelemetry) ++ [r] }
  else { l with reportsLost := true }

/-- Queue a report (R151). -/
def State.queueReport (s : State) (r : Report) : State :=
  { s with link := if r.isTelemetry then s.link.putTelemetry r else s.link.putOther r }

/-- Queue an EVENT report with the time base and frame counter of now (R164). -/
def State.queueEvent (s : State) (k : EventKind) : State := s.queueReport (.event s.time s.sync.frame k)

/-- Remove the first report that satisfies a test, with what remains. -/
def takeFirst (p : Report → Bool) (l : List Report) : Option (Report × List Report) :=
  match l with
  | [] => none
  | r :: rest =>
    if p r then some (r, rest)
    else
      match takeFirst p rest with
      | none => none
      | some (q, left) => some (q, r :: left)

/-- The transmitter's choice among the reports: FAULT, then SEGMENT, MARK or EVENT, then TELEMETRY (R152). -/
def chooseReport (l : List Report) : Option (Report × List Report) :=
  match takeFirst Report.isFault l with
  | some x => some x
  | none =>
    match takeFirst (fun r => !r.isTelemetry) l with
    | some x => some x
    | none => takeFirst Report.isTelemetry l

/-- An idle transmitter takes the next frame by class at once, if a slot holds one (R152).  It is asked at the end of an
event (log entry 15). -/
def State.startTransmit (s : State) : State :=
  match s.link.tx with
  | some _ => s
  | none =>
    match s.link.replies with
    | r :: rest => { s with link := { s.link with replies := rest, tx := some ⟨.reply r, s.time⟩ } }
    | [] =>
      match chooseReport s.link.reports with
      | none => s
      | some (r, rest) => { s with link := { s.link with reports := rest, tx := some ⟨.report r, s.time⟩ } }

/-- A function over several axes, one after another. -/
def overAxes (axes : List Axis) (f : State → Axis → State) (s : State) : State := axes.foldl f s

end Sys2Proof.Machine
end

