-- ==== Sys2Proof/Machine/Flags.lean ====
section
/-! DEFINITION. Flags and levels of the Fault Monitor: the reaction table, the effective level and the
condition-present flags of the entries (chapter 7). -/

namespace Sys2Proof.Machine

/-- The higher of two levels. -/
def Level.sup (a b : Level) : Level := if a.code ≤ b.code then b else a

/-- A level is at least another. -/
def Level.atLeast (a b : Level) : Bool := decide (b.code ≤ a.code)

/-- The level of a number 0..4 (section 7.2). -/
def levelOfCode (n : Nat) : Option Level :=
  match n with
  | 0 => some .note
  | 1 => some .derate
  | 2 => some .stop
  | 3 => some .brake
  | 4 => some .open
  | _ => none

/-- The kind of a number 0..9 (section 7.1). -/
def kindOfCode (n : Nat) : Option FaultKind :=
  match n with
  | 0 => some .overcurrent
  | 1 => some .sensorStall
  | 2 => some .tracking
  | 3 => some .saturation
  | 4 => some .limitOverrun
  | 5 => some .busUndervolt
  | 6 => some .busOvervolt
  | 7 => some .linkSilence
  | 8 => some .stopLine
  | 9 => some .encoderFault
  | _ => none

/-- The number of a kind (section 7.1). -/
def kindCode (k : FaultKind) : Nat :=
  match k with
  | .overcurrent => 0
  | .sensorStall => 1
  | .tracking => 2
  | .saturation => 3
  | .limitOverrun => 4
  | .busUndervolt => 5
  | .busOvervolt => 6
  | .linkSilence => 7
  | .stopLine => 8
  | .encoderFault => 9

/-- The lowest level SET_REACTION stores for a kind (section 7.1). -/
def lowestLevel (k : FaultKind) : Level :=
  match k with
  | .overcurrent => .open
  | .sensorStall => .stop
  | .tracking => .note
  | .saturation => .note
  | .limitOverrun => .stop
  | .busUndervolt => .stop
  | .busOvervolt => .brake
  | .linkSilence => .note
  | .stopLine => .brake
  | .encoderFault => .stop

/-- The stored level of a kind (R121). -/
def Reactions.get (r : Reactions) (k : FaultKind) : Level :=
  match k with
  | .overcurrent => r.overcurrent
  | .sensorStall => r.sensorStall
  | .tracking => r.tracking
  | .saturation => r.saturation
  | .limitOverrun => r.limitOverrun
  | .busUndervolt => r.busUndervolt
  | .busOvervolt => r.busOvervolt
  | .linkSilence => r.linkSilence
  | .stopLine => r.stopLine
  | .encoderFault => r.encoderFault

/-- The table with the level of one kind stored (R122). -/
def Reactions.set (r : Reactions) (k : FaultKind) (l : Level) : Reactions :=
  match k with
  | .overcurrent => { r with overcurrent := l }
  | .sensorStall => { r with sensorStall := l }
  | .tracking => { r with tracking := l }
  | .saturation => { r with saturation := l }
  | .limitOverrun => { r with limitOverrun := l }
  | .busUndervolt => { r with busUndervolt := l }
  | .busOvervolt => { r with busOvervolt := l }
  | .linkSilence => { r with linkSilence := l }
  | .stopLine => { r with stopLine := l }
  | .encoderFault => { r with encoderFault := l }

/-- The effective level of a fault set: the highest level among its entries, NOTE (0) when it is empty (R123). -/
def effectiveLevel (l : List FaultEntry) : Level :=
  match l with
  | [] => .note
  | e :: rest => e.level.sup (effectiveLevel rest)

/-- The entry of a kind, if the set holds one. -/
def findEntry (l : List FaultEntry) (k : FaultKind) : Option FaultEntry := l.find? fun e => e.kind == k

/-- The set holds an entry of a kind with its condition present. -/
def hasPresent (l : List FaultEntry) (k : FaultKind) : Bool := l.any fun e => e.kind == k && e.present

/-- The condition-present flag of the entry of a kind follows its condition (R126). -/
def setPresent (l : List FaultEntry) (k : FaultKind) (b : Bool) : List FaultEntry :=
  l.map fun e => if e.kind == k then { e with present := b } else e

/-- The flag of a kind on one axis. -/
def AxisState.setCondition (x : AxisState) (k : FaultKind) (b : Bool) : AxisState :=
  { x with faults := setPresent x.faults k b }

/-- The condition of a kind ends on every axis at one event (R126). -/
def State.endCondition (s : State) (k : FaultKind) : State := s.modAxes fun x => x.setCondition k false

/-- The effective level of an axis (R123). -/
def AxisState.effective (x : AxisState) : Level := effectiveLevel x.faults

/-- The conditions of the loop's three watches end together, at the loop's stop (R98, R100, R126). -/
def AxisState.endLoopConditions (x : AxisState) : AxisState :=
  ((x.setCondition .tracking false).setCondition .saturation false).setCondition .limitOverrun false

/-- An entry of a new raise (R123). -/
def newEntry (k : FaultKind) (stored : Level) (now : Time) : FaultEntry :=
  { kind := k, level := stored, count := 1, firstRaise := now, present := true }

/-- A re-raised entry: count up to 255, level the greater, condition present (R124). -/
def reraised (e : FaultEntry) (stored : Level) : FaultEntry :=
  { e with count := if e.count < 255 then e.count + 1 else e.count, level := e.level.sup stored, present := true }

/-- Step 1 of a raise on a fault set (R119, R123, R124). -/
def raiseInSet (l : List FaultEntry) (k : FaultKind) (stored : Level) (now : Time) : List FaultEntry :=
  if l.any (fun e => e.kind == k) then l.map fun e => if e.kind == k then reraised e stored else e
  else l ++ [newEntry k stored now]

end Sys2Proof.Machine
end

