-- ==== Sys2Proof/Machine/Operands.lean ====
section
/-! DEFINITION. The operands of the requests: the fields of each payload (R156, R157) and the codes of their
enumerations.  A value that a code table does not give is `none`. -/

namespace Sys2Proof.Machine

/-- An axis, mark or input number 0..3. -/
def fourOfByte (b : Byte) : Option (Fin 4) := if h : b.toNat < 4 then some ⟨b.toNat, h⟩ else none

/-- An axis mask whose upper four bits are all zero (R8). -/
def maskOfByte (b : Byte) : Option AxisMask := if b.toNat < 16 then some (b.setWidth 4) else none

def kindOfByte (b : Byte) : Option AxisKind :=
  match b.toNat with
  | 0 => some .none
  | 1 => some .inertial
  | 2 => some .joint
  | _ => none

def stopModeOfByte (b : Byte) : Option StopMode :=
  match b.toNat with
  | 0 => some .pause
  | 1 => some .latch
  | _ => none

def edgeOfByte (b : Byte) : Option EdgeSelection :=
  match b.toNat with
  | 0 => some .off
  | 1 => some .rising
  | 2 => some .falling
  | 3 => some .both
  | _ => none

def targetOfByte (b : Byte) : Option GainTarget :=
  match b.toNat with
  | 0 => some .hold
  | 1 => some .move
  | 2 => some .both
  | _ => none

def applyOfByte (b : Byte) : Option ApplyMode :=
  match b.toNat with
  | 0 => some .now
  | 1 => some .atSegment
  | _ => none

/-- FLUSH mode: `some true` is ALL, `some false` PENDING. -/
def flushAllOfByte (b : Byte) : Option Bool :=
  match b.toNat with
  | 0 => some false
  | 1 => some true
  | _ => none

def captureOfByte (b : Byte) : Option CaptureMode :=
  match b.toNat with
  | 0 => some .long
  | 1 => some .short
  | _ => none

def directionOfByte (b : Byte) : Option MarkDirection :=
  match b.toNat with
  | 0 => some .up
  | 1 => some .down
  | 2 => some .either
  | _ => none

def markModeOfByte (b : Byte) : Option MarkMode :=
  match b.toNat with
  | 0 => some .once
  | 1 => some .repeat
  | _ => none

/-- A two-valued code that is judged: 0 no, 1 yes. -/
def boolOfByte (b : Byte) : Option Bool :=
  match b.toNat with
  | 0 => some false
  | 1 => some true
  | _ => none

def segKindOfByte (b : Byte) : Option SegKind :=
  match b.toNat with
  | 0 => some .hold
  | 1 => some .rate
  | 2 => some .goto
  | 3 => some .stream
  | 4 => some .home
  | _ => none

/-- A gyro channel code: 0 X, 1 Y, 2 Z. -/
def gyroChannelListed (b : Byte) : Bool := decide (b.toNat < 3)

/-- A sign code: 0x01 or 0xFF. -/
def signListed (b : Byte) : Bool := b == 0x01 || b == 0xFF

/-- An encoder code: 0..3 an input, 4 NONE. -/
def encoderListed (b : Byte) : Bool := decide (b.toNat < 5)

/-- A vehicle channel code: 0 NONE, 1 YAW, 2 PITCH, 3 ROLL. -/
def vehChannelListed (b : Byte) : Bool := decide (b.toNat < 4)

/-! ### SET_DEVICE (R1, section 1.1): 17 bytes -/

/-- The ten settings as carried but for their two codes, which stand beside them. -/
def readSettings (p : List Byte) (m : StopMode) (e : EdgeSelection) : Settings :=
  { silence := readU16 p 0, stream := readU16 p 2, stopMode := m, edge := e, shockThreshold := readU16 p 6
    shockWindow := readU8 p 8, stillness := readU16 p 9, vDerate := readU16 p 11, vCut := readU16 p 13
    vOver := readU16 p 15 }

/-- The settings with each numeric one clamped to its range (section 1.1). -/
def Settings.clamped (x : Settings) : Settings :=
  { x with
    silence := clamp x.silence 50 2000
    stream := clamp x.stream 10 500
    shockThreshold := clamp x.shockThreshold 500 16000
    shockWindow := clamp x.shockWindow 10 200
    stillness := clamp x.stillness 50 5000
    vDerate := clamp x.vDerate 100 600
    vCut := clamp x.vCut 100 600
    vOver := clamp x.vOver 100 650 }

/-! ### CONFIGURE_AXIS (R3, section 1.2): the axis number and 66 bytes -/

/-- The record as carried from offset 1, with its kind read. -/
def readRecord (p : List Byte) (k : AxisKind) : AxisRecord :=
  { kind := k
    period := readU16 p 2
    gyroChannel := byteAt p 4
    gyroSign := byteAt p 5
    encoder := byteAt p 6
    num := readU16 p 7
    den := readU16 p 9
    indexRef := readS32 p 11
    limMin := readS32 p 15
    limMax := readS32 p 19
    margin := readU16 p 23
    rateLimit := readS32 p 25
    accelLimit := readS32 p 29
    window := readU16 p 33
    errClamp := readS32 p 35
    trackLimit := readS32 p 39
    trackTime := readU16 p 43
    torque := readU16 p 45
    slew := readU16 p 47
    bias := readS16 p 49
    satTime := readU16 p 51
    trip := readU16 p 53
    deadTime := readU16 p 55
    releaseTime := readU16 p 57
    engageTime := readU16 p 59
    vehChannel := byteAt p 61
    vehSign := byteAt p 62
    ffGain := readU16 p 63
    tap := readU8 p 65
    shockRide := byteAt p 66 }

/-- The record with each numeric field clamped to its range (section 1.2). -/
def AxisRecord.clamped (r : AxisRecord) : AxisRecord :=
  { r with
    num := clamp r.num 1 65535
    den := clamp r.den 1 65535
    indexRef := clamp r.indexRef (-2147483648) 2147483647
    limMin := clamp r.limMin (-2000000) 2000000
    limMax := clamp r.limMax (-2000000) 2000000
    margin := clamp r.margin 0 10000
    rateLimit := clamp r.rateLimit 1000 600000
    accelLimit := clamp r.accelLimit 1000 5000000
    window := clamp r.window 1 5000
    errClamp := clamp r.errClamp 100 90000
    trackLimit := clamp r.trackLimit 100 180000
    trackTime := clamp r.trackTime 1 1000
    torque := clamp r.torque 0 1000
    slew := clamp r.slew 1 2000
    bias := clamp r.bias (-500) 500
    satTime := clamp r.satTime 1 5000
    trip := clamp r.trip 100 30000
    deadTime := clamp r.deadTime 100 2000
    releaseTime := clamp r.releaseTime 20 500
    engageTime := clamp r.engageTime 20 500
    ffGain := clamp r.ffGain 0 2048
    tap := clamp r.tap 0 15 }

/-- The codes of a record that step 3 of R3 judges without the other axes. -/
def AxisRecord.codesListed (r : AxisRecord) : Bool :=
  (r.period == 250 || r.period == 500 || r.period == 1000 || r.period == 2000) &&
    (r.kind != .inertial || (gyroChannelListed r.gyroChannel && signListed r.gyroSign)) &&
    encoderListed r.encoder &&
    (vehChannelListed r.vehChannel && signListed r.vehSign) &&
    (r.kind != .joint || r.encoder != 4)

/-! ### QUEUE_SEGMENT (R44, R156): 26 bytes -/

/-- A segment record as carried: its codes read, its value and cap with their presence. -/
structure CarriedSegment where
  tag : Tag
  kind : SegKind
  value : Option Int
  cap : Option Int
  accel : Int
  duration : Int
  start : Start
  group : Nat
  members : Byte
  notify : Bool
  deriving DecidableEq, Repr

/-- The start condition of a start code and a delay, which is 0..15 whatever the start (R44). -/
def startOfBytes (start delay : Byte) : Option Start :=
  if 15 < delay.toNat then none
  else
    match start.toNat with
    | 0 => some .immediate
    | 1 => some (.sync delay.toNat)
    | _ => none

/-- The segment record of a payload, `none` when a code is not listed (step 1 of R44).  Value, cap, accel and duration
are signed (R157). -/
def readSegment (p : List Byte) : Option CarriedSegment :=
  match segKindOfByte (byteAt p 3), startOfBytes (byteAt p 21) (byteAt p 22), boolOfByte (byteAt p 25) with
  | some k, some st, some n =>
    if 15 < (byteAt p 23).toNat then none
    else if (byteAt p 23).toNat ≠ 0 ∧ 15 < (byteAt p 24).toNat then none
    else
      some
        { tag := byteAt p 2 ++ byteAt p 1
          kind := k
          value := if (byteAt p 4).getLsbD 0 then some (readS32 p 5) else none
          cap := if (byteAt p 4).getLsbD 1 then some (readS32 p 9) else none
          accel := readS32 p 13
          duration := readS32 p 17
          start := st
          group := (byteAt p 23).toNat
          members := byteAt p 24
          notify := n }
  | _, _, _ => none

/-! ### Stream messages (R147) -/

/-- The n entries of a stream message, each an axis number and a signed rate. -/
def readEntries (p : List Byte) (n : Nat) : List (Byte × Int) :=
  (List.range n).map fun i => (byteAt p (1 + 5 * i), readS32 p (2 + 5 * i))

/-- A stream payload is applied when its count is 1..4 and its length fits (R147). -/
def streamEntries (p : List Byte) : Option (List (Byte × Int)) :=
  let n := (byteAt p 0).toNat
  if 1 ≤ n ∧ n ≤ 4 ∧ p.length = 1 + 5 * n then some (readEntries p n) else none

/-! ### Request types (section 9.4) -/

/-- The payload length of a request TYPE, `none` for a TYPE that is not a request the device knows (R148). -/
def requestLength (t : Byte) : Option Nat :=
  match t.toNat with
  | 0x01 => some 0
  | 0x02 => some 0
  | 0x03 => some 1
  | 0x10 => some 17
  | 0x11 => some 67
  | 0x12 => some 9
  | 0x13 => some 2
  | 0x14 => some 9
  | 0x15 => some 2
  | 0x20 => some 1
  | 0x21 => some 1
  | 0x22 => some 1
  | 0x23 => some 1
  | 0x24 => some 1
  | 0x25 => some 5
  | 0x2F => some 0
  | 0x30 => some 26
  | 0x31 => some 2
  | _ => none

end Sys2Proof.Machine
end

