-- ==== Sys2Proof/Machine/Gates.lean ====
section
/-! DEFINITION. The gate outputs and the brake output of a Drive Stage as functions of its state (R103, R105, R110),
with times in ns after a period boundary. -/

namespace Sys2Proof.Machine

/-- What one leg of the bridge does in a period (R103). -/
inductive LegPattern where
  /-- both switches off -/
  | off
  /-- low side on throughout -/
  | low
  /-- high side on throughout -/
  | high
  /-- a centred pulse of an on-time in ns -/
  | pulse (onTime : Int)
  deriving DecidableEq, Repr

/-- The on-time of a duty: |u| × 50 ns (R103). -/
def onTime (duty : Int) : Int := magnitude duty * 50

/-- The pattern of the pulsed leg, with the short pulse and the short gap suppressed (R103). -/
def pulsedPattern (duty deadTime : Int) : LegPattern :=
  if onTime duty < 2 * deadTime then .low
  else if 50000 - onTime duty < 2 * deadTime then .high
  else .pulse (onTime duty)

/-- The pattern of leg A in an output state (R103, R105). -/
def patternA (st : DriveState) (duty deadTime : Int) : LegPattern :=
  match st with
  | .open => .off
  | .short => .low
  | .run => if 0 < duty then pulsedPattern duty deadTime else .low

/-- The pattern of leg B in an output state (R103, R105). -/
def patternB (st : DriveState) (duty deadTime : Int) : LegPattern :=
  match st with
  | .open => .off
  | .short => .low
  | .run => if duty < 0 then pulsedPattern duty deadTime else .low

/-- Which switch of a leg its pattern turns on at an instant of the period: around a pulse the low side is off from
one dead time before the high side turns on until one dead time after it turns off (R103).  An instant is the start
of the ns that begins there. -/
def patternSide (p : LegPattern) (deadTime t : Int) : LegSide :=
  match p with
  | .off => .off
  | .low => .low
  | .high => .high
  | .pulse on =>
    if 25000 - on / 2 ≤ t ∧ t < 25000 + on / 2 then .high
    else if 25000 - on / 2 - deadTime ≤ t ∧ t < 25000 + on / 2 + deadTime then .off
    else .low

/-- The switch of a leg that is on, of the one its pattern asks for and the dead times that still run (R103). -/
def LegGuard.side (g : LegGuard) (asked : LegSide) (t : Int) : LegSide :=
  if t < g.offUntil ∨ (asked = .high ∧ t < g.highFrom) then .off else asked

/-- The pattern of leg A in the present period. -/
def Drive.legA (d : Drive) : LegPattern := patternA d.state d.duty d.deadTime

/-- The pattern of leg B in the present period. -/
def Drive.legB (d : Drive) : LegPattern := patternB d.state d.duty d.deadTime

/-- The side of leg A at an instant of the present period. -/
def Drive.sideA (d : Drive) (t : Int) : LegSide := d.guardA.side (patternSide d.legA d.deadTime t) t

/-- The side of leg B at an instant of the present period. -/
def Drive.sideB (d : Drive) (t : Int) : LegSide := d.guardB.side (patternSide d.legB d.deadTime t) t

/-- The end of the dead time after the pulse of a pattern, once its high side has gone off (R103). -/
def trailingEnd (p : LegPattern) (deadTime t : Int) : Int :=
  match p with
  | .pulse on => if 25000 + on / 2 ≤ t then 25000 + on / 2 + deadTime else 0
  | _ => 0

/-- The dead times of a leg after a change of its pattern at an instant: a high side that was on is followed by one
dead time, read with the new pattern, unless it stays on; a low side that was on keeps the high side off for one; and
those that run already run on (R103, R107). -/
def LegGuard.change (g : LegGuard) (old : LegPattern) (oldDead : Int) (new : LegPattern) (newDead t : Int) : LegGuard :=
  let before := g.side (patternSide old oldDead (t - 1)) (t - 1)
  { offUntil :=
      if before = .high ∧ new ≠ .high then t + newDead
      else if g.offUntil ≤ trailingEnd old oldDead t then trailingEnd old oldDead t
      else g.offUntil
    highFrom := if before = .low then t + newDead else g.highFrom }

/-- The same dead times counted from the next boundary. -/
def LegGuard.nextPeriod (g : LegGuard) : LegGuard := ⟨g.offUntil - 50000, g.highFrom - 50000⟩

/-- The four gate outputs of an axis at an instant: GH_A, GL_A, GH_B, GL_B (introduction, section 8). -/
def Drive.gates (d : Drive) (t : Int) : Bool × Bool × Bool × Bool :=
  (d.sideA t == .high, d.sideA t == .low, d.sideB t == .high, d.sideB t == .low)

/-- The brake output BRKn, high to release (R110). -/
def Drive.brakePin (d : Drive) : Bool := d.brakeReleased

end Sys2Proof.Machine
end

