-- ==== Sys2Proof/Machine/DriveStage.lean ====
section
/-! DEFINITION. The Drive Stage: requests taken at the next boundary, changes at once, and the brake line
(R104 to R107, R110). -/

namespace Sys2Proof.Machine

/-- A request taken at the next boundary replaces the pending one (R106). -/
def Drive.request (d : Drive) (st : DriveState) : Drive := { d with pending := some st }

/-- A change at once, at an instant of the period: state in force set, duty 0, pending request cleared, and the gates
change through one dead time in each leg whose high side was on (R107). -/
def Drive.placeAtOnce (d : Drive) (st : DriveState) (now : Int) : Drive :=
  { d with
    state := st
    pending := none
    duty := 0
    guardA := d.guardA.change d.legA d.deadTime (patternA st 0 d.deadTime) d.deadTime now
    guardB := d.guardB.change d.legB d.deadTime (patternB st 0 d.deadTime) d.deadTime now }

/-- A change of a Drive Stage. -/
def AxisState.modDrive (x : AxisState) (f : Drive → Drive) : AxisState := { x with drive := f x.drive }

/-- The present instant in ns of the PWM period that a Drive Stage is in, which is the end of the last one while its
boundary has not been taken (R102). -/
def State.pwmNow (s : State) (d : Drive) : Int := if d.boundaryDue then 50000 else (s.pwmPhase : Int) * 1000

/-- Request an output state of an axis from the next boundary (R105, R106). -/
def State.requestDrive (s : State) (a : Axis) (st : DriveState) : State :=
  s.modAxis a fun x => x.modDrive fun d => d.request st

/-- Place an output state of an axis at once (R107). -/
def State.placeDrive (s : State) (a : Axis) (st : DriveState) : State :=
  s.modAxis a fun x => x.modDrive fun d => d.placeAtOnce st (s.pwmNow d)

/-- The state a pending request leads to at a boundary: a pending RUN is discarded while a PAUSE holds the axis and
on a FAULTED axis (R106). -/
def takenState (d : Drive) (paused : Bool) (life : Life) : DriveState :=
  match d.pending with
  | none => d.state
  | some .run => if paused || life == .faulted then d.state else .run
  | some st => st

/-- The duty latched at a boundary in a state (R104): the test demand, the handed demand, or 0 outside RUN. -/
def latchedDuty (st : DriveState) (test : DriveTest) (handed : Int) : Int :=
  match st with
  | .run => if test.running then test.demand else handed
  | _ => 0

/-- A Drive Stage at a boundary enters a state with a duty and a dead time; the dead times of its legs are counted from
the new boundary (R103). -/
def Drive.enterPeriod (d : Drive) (st : DriveState) (duty deadTime : Int) : Drive :=
  { d with
    state := st
    pending := none
    duty := duty
    deadTime := deadTime
    guardA := (d.guardA.change d.legA d.deadTime (patternA st duty deadTime) deadTime 50000).nextPeriod
    guardB := (d.guardB.change d.legB d.deadTime (patternB st duty deadTime) deadTime 50000).nextPeriod
    boundaryDue := false }

/-- A period boundary of one Drive Stage (R103, R104, R106). -/
def AxisState.boundary (x : AxisState) (paused : Bool) : AxisState :=
  let st := takenState x.drive paused x.life
  { x with drive := x.drive.enterPeriod st (latchedDuty st x.test x.drive.handed) x.cfg.deadTime }

end Sys2Proof.Machine
end

