-- ==== Sys2Proof/Machine/Sequencer.lean ====
section
/-! DEFINITION. The Segment Sequencer: queue positions, readiness, activation, outcomes, frame-synchronised starts,
the group table, removals and the stream context (chapter 3). -/

namespace Sys2Proof.Machine

/-! ### Queue positions (R42) -/

/-- A bounded segment: a non-zero duration, or any GOTO or HOME (section 3.1). -/
def Segment.bounded (g : Segment) : Bool :=
  match g.kind with
  | .goto | .home => true
  | .hold | .rate | .stream => g.duration != 0

/-- The queue depth, the active segment included (R42). -/
def AxisState.depth (x : AxisState) : Nat := x.waiting.length + (if x.active.isSome then 1 else 0)

/-- No segment is active, or the active one is unbounded. -/
def AxisState.frontOpen (x : AxisState) : Bool :=
  match x.active with
  | none => true
  | some c => !c.seg.bounded

/-- The staged segment is ready: the axis is TRACKING and its front is open (R43). -/
def AxisState.frontReady (x : AxisState) : Bool := x.life == .tracking && x.frontOpen

/-! ### Outcomes (R66) -/

/-- An outcome that is reported whatever the notify option (R66). -/
def SegOutcome.always (o : SegOutcome) : Bool :=
  match o with
  | .completed | .superseded | .flushed => false
  | .timeout | .homeFailed | .stoppedByFault | .groupBroken => true

/-- Give a segment its outcome: its SEGMENT report is queued when the outcome, the notify option or SYNC_MISSED asks
for it (R66). -/
def State.giveOutcome (s : State) (a : Axis) (g : Segment) (o : SegOutcome) (missed activated : Bool) : State :=
  if o.always || g.notify || missed then
    s.queueReport (.segment a g.tag o missed activated s.time s.sync.frame)
  else s

/-! ### Gains (R7) -/

/-- Copy a staged record into its target set or sets; it then ceases to exist (R7). -/
def AxisState.applyStaged (x : AxisState) : AxisState :=
  match x.staged with
  | none => x
  | some g =>
    match g.target with
    | .hold => { x with hold := g.gains, staged := none }
    | .move => { x with move := g.gains, staged := none }
    | .both => { x with hold := g.gains, move := g.gains, staged := none }

/-- Apply a staged record if it has a mode (R7). -/
def AxisState.applyStagedOf (x : AxisState) (m : ApplyMode) : AxisState :=
  match x.staged with
  | none => x
  | some g => if g.mode == m then x.applyStaged else x

/-! ### Index capture (R28) -/

/-- Arm or disarm index capture on the input an axis is mapped to (R28). -/
def State.setCapture (s : State) (a : Axis) (b : Bool) : State :=
  match (s.axis a).input with
  | none => s
  | some i => s.modEncoder i fun e => { e with armed := b }

/-! ### The end of an active segment -/

/-- What the end of an active segment does beyond its outcome: a STREAM clears the lapse state (R64); a HOME that
ends by failure or removal disarms capture and its start angle becomes none (R28, R62, R81). -/
def State.leaveActive (s : State) (a : Axis) (g : Segment) (o : SegOutcome) : State :=
  match g.kind with
  | .stream => s.modAxis a fun x => { x with stream := { x.stream with lapse := .clear } }
  | .home =>
    match o with
    | .completed | .superseded => s
    | _ => (s.setCapture a false).modAxis a fun x => { x with gen := { x.gen with homeStart := none } }
  | _ => s

/-- The active segment leaves the queue with an outcome (R48 to R51, R61). -/
def State.endActive (s : State) (a : Axis) (o : SegOutcome) : State :=
  match (s.axis a).active with
  | none => s
  | some c =>
    ((s.giveOutcome a c.seg o c.syncMissed true).leaveActive a c.seg o).modAxis a fun x => { x with active := none }

/-! ### Activation (R49, R50) -/

/-- The stream context at the activation of a STREAM segment: LIVE when the aged mark is clear, LAPSED with an EVENT
otherwise (R64). -/
def State.activateStream (s : State) (a : Axis) (g : Segment) : State :=
  if (s.axis a).stream.aged then
    (s.modAxis a fun x => { x with stream := { x.stream with lapse := .lapsed } }).queueEvent (.streamLapse a g.tag)
  else s.modAxis a fun x => { x with stream := { x.stream with lapse := .live } }

/-- A HOME activation records the start angle and arms index capture (R49, R81). -/
def State.activateHome (s : State) (a : Axis) : State :=
  (s.modAxis a fun x => { x with gen := { x.gen with homeStart := some x.gen.theta } }).setCapture a true

/-- What an activation does for the kind of the segment (R49). -/
def State.activateKind (s : State) (a : Axis) (g : Segment) : State :=
  match g.kind with
  | .stream => s.activateStream a g
  | .home => s.activateHome a
  | _ => s

/-- The staged segment becomes the active one; the active segment in front of it is superseded first (R49, R50). -/
def State.activate (s : State) (a : Axis) (missed : Bool) : State :=
  match (s.axis a).waiting with
  | [] => s
  | g :: rest =>
    ((s.endActive a .superseded).modAxis a fun x =>
      { x with
        active := some { seg := g, elapsed := 0, followed := false, syncMissed := missed }
        waiting := rest
        counting := none }.applyStagedOf .atSegment).activateKind a g

/-- Activate on several axes, one after another. -/
def State.activateAll (s : State) (axes : List Axis) (missed : Bool) : State :=
  axes.foldl (fun s a => s.activate a missed) s

/-! ### The group table (R56 to R58) -/

/-- The open entry of a group id. -/
def State.findGroup (s : State) (id : Nat) : Option GroupEntry := s.groups.find? fun e => e.id == id

/-- The entry of a group id changed by a function. -/
def State.modGroup (s : State) (id : Nat) (f : GroupEntry → GroupEntry) : State :=
  { s with groups := s.groups.map fun e => if e.id == id then f e else e }

/-- The entry of a group id closes (R56). -/
def State.closeGroup (s : State) (id : Nat) : State := { s with groups := s.groups.filter fun e => e.id != id }

/-- A group fires: every member's segment becomes active at one event and the entry closes (R58).  The members are
taken in ascending order (log entry 8). -/
def State.fireGroup (s : State) (e : GroupEntry) (missed : Bool) : State :=
  (s.activateAll (maskAxes e.members) missed).closeGroup e.id

/-- An axis arrives in its group entry; a completing arrival fires the group or begins its counting (R57).  The axes
that were activated are answered beside the state. -/
def State.arrive (s : State) (a : Axis) (id : Nat) : State × List Axis :=
  match s.findGroup id with
  | none => (s, [])
  | some e =>
    if maskHas e.arrived a then (s, [])
    else
      let s1 := s.modGroup id fun e => { e with arrived := maskAdd e.arrived a }
      if maskAdd e.arrived a == e.members then
        match e.start with
        | .immediate => (s1.fireGroup e false, maskAxes e.members)
        | .sync d =>
          if s.sync.present then (s1.modGroup id fun e => { e with remaining := some (d + 1) }, [])
          else (s1.fireGroup e true, maskAxes e.members)
      else (s1, [])

/-! ### Readiness (R43) -/

/-- Judge the staged segment of an axis: an IMMEDIATE one waits for the axis's Sequencer step, a SYNC one begins
counting or, with sync absent, is activated with SYNC_MISSED, a group one arrives (R43, R53, R57).  The axes that
were activated, whose next staged segment is to be judged in turn, are answered beside the state. -/
def State.judgeOne (s : State) (a : Axis) : State × List Axis :=
  if (s.axis a).frontReady then
    match (s.axis a).waiting with
    | [] => (s, [])
    | g :: _ =>
      if g.group == 0 then
        match g.start with
        | .immediate => (s, [])
        | .sync d =>
          if (s.axis a).counting.isSome then (s, [])
          else if s.sync.present then (s.modAxis a fun x => { x with counting := some (d + 1) }, [])
          else (s.activate a true, [a])
      else s.arrive a g.group
  else (s, [])

/-- Judge the axes of a list in its order, and then those the judging activated in the order of their activation, which no
rule fixes (log entry 39).  Every activation takes one waiting segment, so the fuel that `judge` gives never runs out. -/
def judgeLoop (fuel : Nat) (axes : List Axis) (s : State) : State :=
  match fuel with
  | 0 => s
  | n + 1 =>
    match axes with
    | [] => s
    | a :: rest => judgeLoop n (rest ++ (s.judgeOne a).2) (s.judgeOne a).1

/-- How many segments wait on the four axes. -/
def State.waitingCount (s : State) : Nat :=
  (s.axis 0).waiting.length + (s.axis 1).waiting.length + (s.axis 2).waiting.length + (s.axis 3).waiting.length

/-- Judge the staged segments of the axes of a list, and whatever becomes ready by it (R43). -/
def State.judge (s : State) (axes : List Axis) : State := judgeLoop (axes.length + s.waitingCount) axes s

/-- The active segment ends by itself and the segment behind it is judged (R48, R51). -/
def State.completeActive (s : State) (a : Axis) (o : SegOutcome) : State := (s.endActive a o).judge [a]

/-! ### Frame-synchronised starts (R53 to R55) -/

/-- The axes whose staged segment counts and satisfies a test on its edges remaining. -/
def State.countingAxes (s : State) (p : Nat → Bool) : List Axis :=
  allAxes.filter fun a =>
    match (s.axis a).counting with
    | none => false
    | some n => p n

/-- The groups that count and satisfy a test on their edges remaining. -/
def State.countingGroups (s : State) (p : Nat → Bool) : List GroupEntry :=
  s.groups.filter fun e =>
    match e.remaining with
    | none => false
    | some n => p n

/-- Start several axes and groups at one event, and judge what becomes ready by it.  Axes are taken before groups,
each in order (log entry 8). -/
def State.startCounted (s : State) (axes : List Axis) (groups : List GroupEntry) (missed : Bool) : State :=
  (groups.foldl (fun s e => s.fireGroup e missed) (s.activateAll axes missed)).judge
    (axes ++ groups.flatMap fun e => maskAxes e.members)

/-- One counted edge decrements every counting segment and group, and starts those that reach 0 (R54, R57). -/
def State.countEdge (s : State) : State :=
  let s1 : State :=
    { s with
      axes := s.axes.map fun x => { x with counting := x.counting.map (· - 1) }
      groups := s.groups.map fun e => { e with remaining := e.remaining.map (· - 1) } }
  s1.startCounted (s1.countingAxes (· == 0)) (s1.countingGroups (· == 0)) false

/-- Loss of sync activates every counting segment and group with SYNC_MISSED (R55, R57). -/
def State.syncLossStarts (s : State) : State :=
  let groups := s.groups.map fun e => if e.remaining.isSome then { e with syncMissed := true } else e
  let s1 : State := { s with groups := groups }
  s1.startCounted (s1.countingAxes fun _ => true) (s1.countingGroups fun _ => true) true

/-! ### Removals (R60 to R62) -/

/-- Another member of a broken group loses its segment of it, wherever it stands, with GROUP_BROKEN (R60). -/
def State.dropGroupSegment (s : State) (id : Nat) (a : Axis) : State :=
  match (s.axis a).waiting.find? fun g => g.group == id with
  | none => s
  | some g =>
    (s.modAxis a fun x => { x with waiting := x.waiting.eraseP fun g => g.group == id }).giveOutcome a g
      .groupBroken false false

/-- The staged segment of an axis is of a group. -/
def State.stagedInGroup (s : State) (id : Nat) (a : Axis) : Bool :=
  match (s.axis a).waiting with
  | [] => false
  | g :: _ => g.group == id

/-- A member's segment was removed before its group fired: the group breaks, at once (R60; log entry 16).  The members that
lost their staged segment are judged in ascending order after all removals (log entry 39). -/
def State.breakGroup (s : State) (a : Axis) (id : Nat) : State :=
  match s.findGroup id with
  | none => s
  | some e =>
    if maskHas e.queued a then
      let others := (maskAxes e.queued).filter (· != a)
      let judged := others.filter fun m => s.stagedInGroup id m
      (((others.foldl (fun s m => s.dropGroupSegment id m) s).queueEvent (.groupBroken id)).closeGroup id).judge judged
    else s

/-- One waiting segment was removed by a flush: its outcome is given and its group breaks (R60, R61). -/
def State.removeWaiting (s : State) (a : Axis) (o : SegOutcome) (g : Segment) : State :=
  if g.group == 0 then s.giveOutcome a g o false false
  else (s.giveOutcome a g o false false).breakGroup a g.group

/-- Remove every segment behind the active one, oldest first (R61). -/
def State.flushWaiting (s : State) (a : Axis) (o : SegOutcome) : State :=
  (s.axis a).waiting.foldl (fun s g => s.removeWaiting a o g)
    (s.modAxis a fun x => { x with waiting := [], counting := none })

/-- Remove every segment of an axis, the active one included, oldest first (R61, R62). -/
def State.flushAll (s : State) (a : Axis) (o : SegOutcome) : State := (s.endActive a o).flushWaiting a o

/-! ### The stream context (R63 to R65) -/

/-- A cleared stream context (R65). -/
def StreamContext.cleared : StreamContext :=
  { rate := 0, arrival := none, aged := true, timer := none, lapse := .clear }

/-- The tag of the active segment when it is a STREAM segment. -/
def AxisState.streamTag (x : AxisState) : Option Tag :=
  match x.active with
  | none => none
  | some c => if c.seg.kind == .stream then some c.seg.tag else none

/-- One entry of a stream message, for a configured axis (R63). -/
def State.storeStream (s : State) (a : Axis) (rate : Int) : State :=
  let x := s.axis a
  let s1 := s.modAxis a fun x =>
    { x with
      stream :=
        { rate := clamp rate (-x.cfg.rateLimit) x.cfg.rateLimit
          arrival := some s.time
          aged := false
          timer := some (s.startMs s.settings.stream)
          lapse := if x.streamTag.isSome && x.stream.lapse == .lapsed then .live else x.stream.lapse } }
  match x.streamTag with
  | none => s1
  | some tag => if x.stream.lapse == .lapsed then s1.queueEvent (.streamResumed a tag) else s1

/-- The stream timer of an axis expires (R64). -/
def State.streamExpiry (s : State) (a : Axis) : State :=
  let x := s.axis a
  let s1 := s.modAxis a fun x =>
    { x with
      stream :=
        { x.stream with
          aged := true
          timer := none
          lapse := if x.streamTag.isSome && x.stream.lapse == .live then .lapsed else x.stream.lapse } }
  match x.streamTag with
  | none => s1
  | some tag => if x.stream.lapse == .live then s1.queueEvent (.streamLapse a tag) else s1

/-- The stream target of an axis: the stored rate while LIVE, 0 otherwise (R64). -/
def StreamContext.target (c : StreamContext) : Int :=
  match c.lapse with
  | .live => c.rate
  | _ => 0

/-! ### The Sequencer step (R48) -/

/-- Step 1: the elapsed time of an active segment followed in an earlier update, frozen under PAUSE (R48). -/
def AxisState.addElapsed (x : AxisState) (paused : Bool) : AxisState :=
  match x.active with
  | none => x
  | some c =>
    if c.followed && !paused then { x with active := some { c with elapsed := c.elapsed + x.cfg.period } } else x

/-- The kind ends by its duration; GOTO and HOME have a time limit instead (section 3.1, R48). -/
def SegKind.lasts (k : SegKind) : Bool :=
  match k with
  | .hold | .rate | .stream => true
  | .goto | .home => false

/-- A segment has reached its duration or time limit, if it has one (R48). -/
def ActiveSegment.reachedEnd (c : ActiveSegment) : Bool :=
  c.seg.duration != 0 && decide (c.seg.duration * 1000 ≤ c.elapsed)

/-- One of steps 2 to 4: the segment active as the step begins ends with an outcome if it passes a test, and the one behind
it is judged (R48). -/
def State.endActiveIf (s : State) (a : Axis) (test : ActiveSegment → Bool) (o : SegOutcome) : State :=
  match (s.axis a).active with
  | none => s
  | some c => if test c then s.completeActive a o else s

/-- Step 2: a HOLD, RATE or STREAM that has reached its duration (R48). -/
def State.durationEnd (s : State) (a : Axis) : State :=
  s.endActiveIf a (fun c => c.seg.kind.lasts && c.reachedEnd) .completed

/-- Step 3: a GOTO or HOME that has reached its time limit, one that step 2 has activated included (R48). -/
def State.timeLimitEnd (s : State) (a : Axis) : State :=
  s.endActiveIf a (fun c => !c.seg.kind.lasts && c.reachedEnd) .timeout

/-- Step 4: an active HOME segment whose input was reloaded since the last update is COMPLETED (R48). -/
def State.homeCapture (s : State) (a : Axis) (reloaded : Bool) : State :=
  s.endActiveIf a (fun c => reloaded && c.seg.kind == .home) .completed

/-- The staged segment is ready with group 0 and start IMMEDIATE. -/
def AxisState.immediateReady (x : AxisState) : Bool :=
  x.frontReady &&
    match x.waiting with
    | [] => false
    | g :: _ => g.group == 0 && g.start == .immediate

/-- Step 5: activate an IMMEDIATE staged segment of group 0 that is ready (R48). -/
def State.activateStep (s : State) (a : Axis) : State :=
  if (s.axis a).immediateReady then (s.activate a false).judge [a] else s

/-- The Sequencer step of an update (R48); the stream target of step 6 is read from the stream context by the
setpoint stage of the same update, before anything else can change it. -/
def State.sequencerStep (s : State) (a : Axis) (reloaded : Bool) : State :=
  if (s.axis a).life == .tracking then
    (((((s.modAxis a fun x => x.addElapsed (s.pausedAxis a)).durationEnd a).timeLimitEnd a).homeCapture a
      reloaded).activateStep a)
  else s

end Sys2Proof.Machine
end

