-- ==== Sys2Proof/Machine/LifeCycle.lean ====
section
/-! DEFINITION. The Axis Controller's shared operations: entering and leaving the axis states, the end of a drive
test, and the arming of an axis (chapter 1). -/

namespace Sys2Proof.Machine

/-- The state of an axis replaced. -/
def State.setLife (s : State) (a : Axis) (l : Life) : State := s.modAxis a fun x => { x with life := l }

/-- The brake line engaged or released at once (R110). -/
def State.setBrake (s : State) (a : Axis) (released : Bool) : State :=
  s.modAxis a fun x => { x with drive := { x.drive with brakeReleased := released } }

/-! ### Leaving the powered states -/

/-- The loop stops (R100); the handed demand becomes 0 with u_out (R104). -/
def AxisState.stopLoop (x : AxisState) : AxisState :=
  { x with
    loop :=
      { x.loop with
        uOut := 0
        trackTimer := 0
        satTimer := 0
        saturated := false
        moveSet := false
        paused := false
        overrun := .notChecked }
    drive := { x.drive with handed := 0 } }.endLoopConditions

/-- What an axis sheds on entry into IDLE or FAULTED from a powered state: its timers, its staged gain record, its
loop, its HOME start angle and its reload-pending flag (R7, R14, R16, R29, R68, R71, R100). -/
def AxisState.shed (x : AxisState) : AxisState :=
  { x.stopLoop with
    armingTimer := none
    engageTimer := none
    updateTimer := none
    staged := none
    gen := { x.gen with homeStart := none }
    meas := { x.meas with reloadPending := false } }

/-- An axis leaves the powered states: index capture on its input is disarmed as well (R28). -/
def State.leavePowered (s : State) (a : Axis) : State := (s.setCapture a false).modAxis a AxisState.shed

/-- Entry into FAULTED from a powered state: the queue is flushed with STOPPED_BY_FAULT, the loop stops and the brake
is engaged at once (R16).  The drive is the reaction's (R120). -/
def State.enterFaulted (s : State) (a : Axis) : State :=
  ((((s.flushAll a .stoppedByFault).leavePowered a).setLife a .faulted).setBrake a false)

/-! ### Stopping -/

/-- Entry into STOPPING(DISARM, ENGAGE): the brake is engaged and the engage timer starts (R14). -/
def State.enterEngage (s : State) (a : Axis) : State :=
  (s.modAxis a fun x =>
    { x with
      life := .stopping .disarm .engage
      armingTimer := none
      engageTimer := some (s.startMs x.cfg.engageTime) }).setBrake a false

/-- The engage timer expires (R14). -/
def State.engageExpiry (s : State) (a : Axis) : State :=
  (((s.requestDrive a .open).leavePowered a).setLife a .idle).queueEvent (.disarmed a)

/-- The arming timer expires: the axis enters TRACKING and its staged segment is judged (R10, R43).  EVENT ARMED is queued
before the reports of what the judging activates, which no rule orders (log entry 43). -/
def State.armingExpiry (s : State) (a : Axis) : State :=
  ((s.modAxis a fun x => { x with life := .tracking, armingTimer := none }).queueEvent (.armed a)).judge [a]

/-- The end of a DECEL phase, toward the intent in force (R13). -/
def State.decelEnd (s : State) (a : Axis) : State :=
  match (s.axis a).life with
  | .stopping .stop .decel => ((s.setLife a .tracking).queueEvent (.stopped a)).judge [a]
  | .stopping .fault .decel => s.setLife a .held
  | .stopping .disarm .decel => s.enterEngage a
  | _ => s

/-- A phase DECEL ends at an update whose setpoint stage leaves the setpoint rate at 0 (R13). -/
def State.decelTest (s : State) (a : Axis) : State := if (s.axis a).gen.omega == 0 then s.decelEnd a else s

/-! ### Drive test (section 1.5) -/

/-- The mean |I| of a drive test: the sum divided by the count, truncated, and 0 with no sample (R19). -/
def DriveTest.mean (t : DriveTest) : Nat := if t.count = 0 then 0 else t.sum / t.count

/-- A drive test is no longer running. -/
def State.clearTest (s : State) (a : Axis) : State :=
  s.modAxis a fun x => { x with test := { x.test with running := false } }

/-- Queue TEST_DONE with what a drive test has gathered (R19). -/
def State.testDone (s : State) (a : Axis) (aborted : Bool) : State :=
  s.queueEvent (.testDone a (s.axis a).test.peak (s.axis a).test.mean aborted)

/-- A drive test ends at its end time (R19). -/
def State.endTest (s : State) (a : Axis) : State := ((s.requestDrive a .open).clearTest a).testDone a false

/-- A drive test, if one is running, is aborted: the drive goes OPEN at once and TEST_DONE is queued (R19). -/
def State.abortTest (s : State) (a : Axis) : State :=
  if (s.axis a).test.running then ((s.placeDrive a .open).clearTest a).testDone a true else s

/-! ### Measured angle and arming -/

/-- floor(count × num / den) of an encoder input under a record (R30). -/
def jointAngle (cfg : AxisRecord) (e : Encoder) : Int := floorDiv (e.count.toInt * cfg.num) cfg.den

/-- The joint angle of the input an axis names, if it names one (R30). -/
def State.jointAngleOf (s : State) (a : Axis) : Option Int :=
  (s.axis a).input.map fun i => jointAngle (s.axis a).cfg (s.encoders.get i)

/-- θm of a configured axis outside its updates: the joint angle of the count of now, or the inertial angle held
(R30, R32). -/
def State.restingAngle (s : State) (a : Axis) : Int :=
  match (s.axis a).cfg.kind with
  | .joint => (s.jointAngleOf a).getD (s.axis a).meas.theta
  | _ => (s.axis a).meas.inertial

/-- θm as reported (R33, R160, R163): of the last update while powered, resting otherwise, 0 when DISABLED. -/
def State.reportedAngle (s : State) (a : Axis) : Int :=
  match (s.axis a).life with
  | .disabled => 0
  | .idle | .faulted => s.restingAngle a
  | _ => (s.axis a).meas.theta

/-- An angle as four signed bytes hold it: the angle itself, and a free value beyond their range (log entry 3). -/
def angle32 (x : Int) : Int :=
  if -2147483648 ≤ x ∧ x ≤ 2147483647 then x else (Config.angleBeyond32 x).toInt

/-- The angle an axis is armed at: 0 for INERTIAL, the joint angle for JOINT (R9, R30). -/
def State.armingAngle (s : State) (a : Axis) : Int :=
  match (s.axis a).cfg.kind with
  | .inertial => 0
  | _ => s.restingAngle a

/-- The measurement state of an axis at arming (R9; ωm reads 0 until the first update, log entry 20). -/
def AxisMeasure.armed (m : AxisMeasure) (kind : AxisKind) (theta : Int) : AxisMeasure :=
  { theta := theta
    omega := 0
    inertial := if kind == .inertial then 0 else m.inertial
    inertialRem := if kind == .inertial then 0 else m.inertialRem
    history := List.replicate 5 theta
    reloadPending := m.reloadPending }

/-- The generator at arming (R9, R71). -/
def Generator.armed (g : Generator) (theta : Int) : Generator :=
  { theta := angle32 theta, rem := 0, omega := 0, target := 0, moving := false, homeStart := g.homeStart
    latch := none }

/-- The loop at arming (R9, R100). -/
def Loop.armed (l : Loop) : Loop :=
  { integ := 0, uPrev := 0, uOut := 0, line := List.replicate 16 0, head := l.head, trackTimer := 0, satTimer := 0
    saturated := false, moveSet := false, paused := false, overrun := .notChecked }

/-- An axis at arming (R9): everything but what other operations do to its drive and brake. -/
def AxisState.armed (x : AxisState) (theta : Int) (arming update : Timer) : AxisState :=
  { x with
    life := .arming
    armingTimer := some arming
    updateTimer := some update
    meas := x.meas.armed x.cfg.kind theta
    gen := x.gen.armed theta
    loop := x.loop.armed
    drive := { x.drive with handed := 0, pending := some .run, brakeReleased := true }
    markSkip := true }

/-- Arming an axis (R9, R68). -/
def State.armAxis (s : State) (a : Axis) : State :=
  s.modAxis a fun x =>
    x.armed (s.armingAngle a) (s.startMs x.cfg.releaseTime) ⟨s.time, x.cfg.period.toNat⟩

end Sys2Proof.Machine
end

