-- ==== Sys2Proof/Machine/Faults.lean ====
section
/-! DEFINITION. The Fault Monitor: reactions, raises and clearing (chapter 7). -/

namespace Sys2Proof.Machine

/-! ### Reactions (R16, R120) -/

/-- A reaction of level STOP on the axis state (R16). -/
def State.reactStop (s : State) (a : Axis) : State :=
  match (s.axis a).life with
  | .arming | .tracking =>
    (s.flushAll a .stoppedByFault).modAxis a fun x =>
      { x with life := .stopping .fault .decel, armingTimer := none }
  | .stopping .stop .decel => s.setLife a (.stopping .fault .decel)
  | _ => s

/-- A reaction of level BRAKE (R16, R105). -/
def State.reactBrake (s : State) (a : Axis) : State :=
  if (s.axis a).life.powered then (s.enterFaulted a).requestDrive a .short
  else if (s.axis a).life == .idle then s.abortTest a
  else s

/-- A reaction of level OPEN: the drive is OPEN at once whatever the configured state (R16, R107, R120; log entry
30). -/
def State.reactOpen (s : State) (a : Axis) : State :=
  if (s.axis a).life.powered then (s.enterFaulted a).placeDrive a .open
  else if (s.axis a).life == .idle then (s.abortTest a).placeDrive a .open
  else if (s.axis a).life == .faulted then s.placeDrive a .open
  else s

/-- The reaction of a level (R120). -/
def State.react (s : State) (a : Axis) (l : Level) : State :=
  match l with
  | .note | .derate => s
  | .stop => s.reactStop a
  | .brake => s.reactBrake a
  | .open => s.reactOpen a

/-! ### Raises (R119, R123, R124, R127, R128) -/

/-- Step 1 of a raise: the active fault set (R119). -/
def State.raiseEntry (s : State) (a : Axis) (k : FaultKind) : State :=
  s.modAxis a fun x => { x with faults := raiseInSet x.faults k (s.reactions.get k) s.time }

/-- The level of the entry of a kind on an axis, NOTE if there is none. -/
def State.entryLevel (s : State) (a : Axis) (k : FaultKind) : Level :=
  ((findEntry (s.axis a).faults k).map (·.level)).getD .note

/-- The count of the entry of a kind on an axis, 0 if there is none. -/
def State.entryCount (s : State) (a : Axis) (k : FaultKind) : Nat :=
  ((findEntry (s.axis a).faults k).map (·.count)).getD 0

/-- An overcurrent raised on an IDLE axis leaves its flag clear by the end of the raise (R127), with no drive test running
too, where R127 states nothing (log entry 40). -/
def State.settleOvercurrent (s : State) (a : Axis) (k : FaultKind) : State :=
  if k == .overcurrent && (s.axis a).life == .idle then s.modAxis a fun x => x.setCondition .overcurrent false else s

/-- Step 3 of a raise: the FAULT report (R128). -/
def State.reportFault (s : State) (a : Axis) (k : FaultKind) : State :=
  s.queueReport (.fault a k (s.entryLevel a k) (s.entryCount a k) (s.axis a).effective (s.axis a).life s.time
    s.sync.frame)

/-- A raise of a kind on an axis, taken whole; none is taken on a DISABLED axis (R119). -/
def State.raise (s : State) (a : Axis) (k : FaultKind) : State :=
  if (s.axis a).life.configured then
    let s1 := s.raiseEntry a k
    ((s1.react a (s1.entryLevel a k)).settleOvercurrent a k).reportFault a k
  else s

/-- Raises of one kind taken one after another.  Each is an event of its own, so an idle transmitter takes a frame
between two of them (R119, R152). -/
def State.raiseAll (s : State) (axes : List Axis) (k : FaultKind) : State :=
  axes.foldl (fun s a => (s.raise a k).startTransmit) s

/-- Raises handed to the Fault Monitor, each to be taken at an event of its own (R119). -/
def State.handOver (s : State) (axes : List Axis) (k : FaultKind) : State :=
  { s with owed := s.owed ++ axes.map fun a => (a, k) }

/-- A detector raises a kind on every axis that satisfies a test at its event.  The raises on the axes of the order are
taken at once in that order; those on the other axes wait, and any other event may be taken before them (R119; log
entry 9). -/
def State.raiseEach (s : State) (order : List Axis) (k : FaultKind) (p : AxisState → Bool) : State :=
  (s.handOver (raisesLater order (s.axesWhere p)) k).raiseAll (raisesNow order (s.axesWhere p)) k

/-- A raise that is taken no longer waits (R119). -/
def State.takeOwed (s : State) (a : Axis) (k : FaultKind) : State := { s with owed := s.owed.erase (a, k) }

/-- The condition of a device-wide detector's kind holds on an axis at this event, read from the detector (R126). -/
def State.conditionHolds (s : State) (a : Axis) (k : FaultKind) : Bool :=
  match k with
  | .sensorStall => s.head.stale && (s.axis a).cfg.kind == .inertial
  | .busUndervolt => s.bus.undervolt
  | .busOvervolt => s.bus.overvolt
  | .linkSilence => s.link.silence.isNone
  | .stopLine => s.stopLine.mode == some .latch
  | _ => true

/-- A raise that waited while its condition ended leaves its entry with the flag clear, since the flag follows the
condition (R126; log entry 9). -/
def State.settleOwed (s : State) (a : Axis) (k : FaultKind) (ended : Bool) : State :=
  if ended then s.modAxis a fun x => x.setCondition k false else s

/-- A raise as an event of the Fault Monitor, one that waits or one from outside (R119). -/
def State.faultRaise (s : State) (a : Axis) (k : FaultKind) : State :=
  (((s.takeOwed a k).raise a k).settleOwed a k
    ((s.axis a).life.configured && s.owed.contains (a, k) && !s.conditionHolds a k)).startTransmit

/-! ### Clearing (R129, R130) -/

/-- CLEAR_FAULTS keeps an entry (R129): its flag is set, and it is not the OVERCURRENT entry of a FAULTED axis
(R127). -/
def keepsEntry (l : Life) (e : FaultEntry) : Bool := e.present && !(l == .faulted && e.kind == .overcurrent)

/-- The state change of a clearing, by the effective level it leaves (R130). -/
def State.clearTransition (s : State) (a : Axis) : State :=
  if (s.axis a).effective.atLeast .stop then s
  else
    match (s.axis a).life with
    | .faulted => (s.setLife a .idle).requestDrive a .open
    | .held => (s.setLife a .tracking).judge [a]
    | _ => s

/-- CLEAR_FAULTS on a configured axis (R129). -/
def State.clearAxis (s : State) (a : Axis) : State :=
  (s.modAxis a fun x => { x with faults := x.faults.filter (keepsEntry x.life) }).clearTransition a

end Sys2Proof.Machine
end

