-- ==== Sys2Proof/Machine/Measurement.lean ====
section
/-! DEFINITION. The Measurement Unit: sensor ports, staleness, bias capture, shock detection, encoder inputs and the
measurement stage of an update (chapter 2). -/

namespace Sys2Proof.Machine

/-- A rate clamped to ±1,500,000 mdeg/s (R22, R23, R31, R32). -/
def clampRate (x : Int) : Int := clamp x (-1500000) 1500000

/-- Three clamped rates read from three four-byte fields from an offset. -/
def readRates (p : List Byte) (i : Nat) : Rates :=
  { x := clampRate (readS32 p i), y := clampRate (readS32 p (i + 4)), z := clampRate (readS32 p (i + 8)) }

/-! ### Bias capture (R35 to R38) -/

/-- A running capture aborts (R37). -/
def State.abortCapture (s : State) (why : AbortReason) : State :=
  match s.bias.activity with
  | none => s
  | some m =>
    { s with
      bias :=
        { s.bias with
          activity := none
          sums := ⟨0, 0, 0⟩
          count := 0
          validity := if m == CaptureMode.long then s.bias.prior.getD s.bias.validity else s.bias.validity
          prior := none } }.queueEvent (.biasAborted m why s.bias.count)

/-- The number of samples of a capture (section 2.5). -/
def captureLength (m : CaptureMode) : Nat :=
  match m with
  | .long => 4096
  | .short => 256

/-- Any of three rates is beyond the stillness threshold in magnitude (R37). -/
def Rates.beyond (r : Rates) (limit : Int) : Bool :=
  decide (limit < magnitude r.x) || decide (limit < magnitude r.y) || decide (limit < magnitude r.z)

/-- The sum of two triples. -/
def Rates.add (r q : Rates) : Rates := ⟨r.x + q.x, r.y + q.y, r.z + q.z⟩

/-- A capture succeeds: each bias is trunc(sum / N) (R36). -/
def State.captureDone (s : State) (m : CaptureMode) (sums : Rates) : State :=
  let n : Int := captureLength m
  let bias : Rates := ⟨truncDiv sums.x n, truncDiv sums.y n, truncDiv sums.z n⟩
  { s with
    bias :=
      { bias := bias
        validity := if m == CaptureMode.long then .settling else s.bias.validity
        prior := none
        activity := none
        sums := ⟨0, 0, 0⟩
        count := 0
        settle := if m == CaptureMode.long then some (s.startMs 100) else s.bias.settle } }.queueEvent (.biasDone m bias)

/-- One sample of a running capture is added (R36). -/
def State.addSample (s : State) (m : CaptureMode) (r : Rates) : State :=
  if s.bias.count + 1 < captureLength m then
    { s with bias := { s.bias with sums := s.bias.sums.add r, count := s.bias.count + 1 } }
  else s.captureDone m (s.bias.sums.add r)

/-- An accepted head frame is offered to a running capture: motion and shock abort it, else it is a sample (R36,
R37; motion is tested before shock, log entry 10). -/
def State.feedCapture (s : State) (r : Rates) : State :=
  match s.bias.activity with
  | none => s
  | some m =>
    if r.beyond s.settings.stillness then s.abortCapture .headMotion
    else if s.shock.active then s.abortCapture .shock
    else s.addSample m r

/-! ### Accepted frames (R22 to R25, R39) -/

/-- An accepted head frame (R22, R24). -/
def State.acceptHead (s : State) (p : List Byte) : State :=
  let r := readRates p 2
  (({ s with head := { seq := some (byteAt p 1), rates := r, arrival := s.time, stale := false } }.endCondition
      .sensorStall).feedCapture r)

/-- A frame is exceeding: |az - 1000| is above the shock threshold (R39). -/
def State.exceeding (s : State) (az : Int) : Bool := decide (s.settings.shockThreshold < magnitude (az - 1000))

/-- The shock detector is fed with an accepted vehicle frame (R39); a beginning aborts a running capture (R37).  EVENT SHOCK
is queued before the BIAS_ABORTED of that abort, which no rule orders (log entry 38). -/
def State.feedShock (s : State) (az : Int) : State :=
  if s.exceeding az then
    let windowEnd := s.time + BitVec.ofInt 32 (s.settings.shockWindow * 1000)
    let s1 : State := { s with shock := { active := true, windowEnd := windowEnd } }
    if s.shock.active then s1 else (s1.queueEvent (.shock az)).abortCapture .shock
  else s

/-- The vehicle stillness test of a running capture (R37). -/
def State.vehicleStillness (s : State) (r : Rates) : State :=
  if r.beyond s.settings.stillness then s.abortCapture .vehicleMotion else s

/-- An accepted vehicle frame (R23): record, restoration (R25), shock detector (R39), stillness (R37). -/
def State.acceptVehicle (s : State) (p : List Byte) : State :=
  let r := readRates p 2
  let az := readS16 p 18
  let s1 : State :=
    { s with
      vehicle := { seq := some (byteAt p 1), rates := r, accelZ := az, arrival := s.time, stale := false } }
  let s2 := if s.vehicle.stale then s1.queueEvent .vehicleRestored else s1
  (s2.feedShock az).vehicleStillness r

/-! ### Sensor ports (R21) -/

/-- The start byte a port hunts for (section 9.10). -/
def portStart (p : SensorPort) : Byte :=
  match p with
  | .head => 0xA5
  | .vehicle => 0x5A

/-- The fixed length of a port's frame (section 9.10). -/
def portLength (p : SensorPort) : Nat :=
  match p with
  | .head => 15
  | .vehicle => 21

/-- A port's framer. -/
def State.port (s : State) (p : SensorPort) : PortState :=
  match p with
  | .head => s.headPort
  | .vehicle => s.vehiclePort

/-- A port's framer replaced. -/
def State.setPort (s : State) (p : SensorPort) (x : PortState) : State :=
  match p with
  | .head => { s with headPort := x }
  | .vehicle => { s with vehiclePort := x }

/-- The last sequence number accepted on a port. -/
def State.portSeq (s : State) (p : SensorPort) : Option Byte :=
  match p with
  | .head => s.head.seq
  | .vehicle => s.vehicle.seq

/-- A complete frame is judged: its check, and whether it is a repeat (R21). -/
def State.judgeSensorFrame (s : State) (p : SensorPort) (bytes : List Byte) : State :=
  if byteSum bytes = 0 ∧ s.portSeq p ≠ some (byteAt bytes 1) then
    match p with
    | .head => s.acceptHead bytes
    | .vehicle => s.acceptVehicle bytes
  else s

/-- A port takes one character (R21). -/
def State.takeSensorCharacter (s : State) (p : SensorPort) (c : Byte) : State :=
  match (s.port p).bytes with
  | [] => if c = portStart p then s.setPort p { bytes := [c], lastTime := s.time } else s
  | b :: rest =>
    if (b :: rest ++ [c]).length < portLength p then s.setPort p { bytes := b :: rest ++ [c], lastTime := s.time }
    else (s.setPort p { bytes := [], lastTime := s.time }).judgeSensorFrame p (b :: rest ++ [c])

/-- A port abandons the frame it assembles and hunts again (R21). -/
def State.abandonPort (s : State) (p : SensorPort) : State :=
  s.setPort p { bytes := [], lastTime := (s.port p).lastTime }

/-! ### Encoder inputs (R26 to R29) -/

/-- The change of count of a legal transition from one sample of the phases to the next (R26). -/
def quadratureUp (a b a' b' : Bool) : Bool :=
  (!a && a' && !b) || (!b && b' && a) || (a && !a' && b) || (b && !b' && !a)

/-- An illegal transition (R27). -/
def State.illegal (s : State) (i : Input) (a b : Bool) : State :=
  let running := (s.encoders.get i).hold.isSome
  let s1 := s.modEncoder i fun e =>
    { e with homed := false, hold := some (s.startMs 10), phaseA := a, phaseB := b }
  if running then s1
  else
    match s.mappedAxis i with
    | none => s1
    | some axis => s1.raise axis .encoderFault

/-- A sample of the two phase lines of an input (R26, R27). -/
def State.phaseSample (s : State) (i : Input) (a b : Bool) : State :=
  let e := s.encoders.get i
  if a = e.phaseA ∧ b = e.phaseB then s
  else if a ≠ e.phaseA ∧ b ≠ e.phaseB then s.illegal i a b
  else
    s.modEncoder i fun e =>
      { e with
        count := if quadratureUp e.phaseA e.phaseB a b then e.count + 1 else e.count - 1
        phaseA := a
        phaseB := b }

/-- An index edge with capture armed reloads the count (R29); the index reference is the mapped axis's. -/
def State.indexReload (s : State) (i : Input) : State :=
  match (s.encoders.get i).armed, s.mappedAxis i with
  | true, some axis =>
    (s.modEncoder i fun e =>
      { e with count := BitVec.ofInt 32 (s.axis axis).cfg.indexRef, homed := true, armed := false }).modAxis axis
      fun x => { x with meas := { x.meas with reloadPending := true } }
  | _, _ => s

/-! ### The measurement stage (R30 to R33) -/

/-- The head rate of a gyro channel code, 0 X, 1 Y, 2 Z. -/
def Rates.channel (r : Rates) (code : Byte) : Int :=
  match code.toNat with
  | 0 => r.x
  | 1 => r.y
  | _ => r.z

/-- A sign code: 0x01 for +1, 0xFF for -1 (R157). -/
def signCode (b : Byte) : Int := if b = 0xFF then -1 else 1

/-- The measured rate of an INERTIAL axis (R32). -/
def State.inertialRate (s : State) (cfg : AxisRecord) : Int :=
  if s.head.stale then 0
  else signCode cfg.gyroSign * clampRate (s.head.rates.channel cfg.gyroChannel - s.bias.bias.channel cfg.gyroChannel)

/-- The measurement of an INERTIAL axis (R32). -/
def AxisMeasure.inertialStep (m : AxisMeasure) (omega period : Int) : AxisMeasure :=
  let acc := m.inertialRem + omega * period
  let q := floorDiv acc 1000000
  { m with
    theta := m.inertial + q
    omega := omega
    inertial := m.inertial + q
    inertialRem := acc - 1000000 * q
    reloadPending := false }

/-- The rate over a history of five angles, oldest first (R31). -/
def historyRate (h : List Int) (period : Int) : Int :=
  clampRate (truncDiv ((h.getD 4 0 - h.getD 0 0) * 1000000) (4 * period))

/-- The measurement of a JOINT axis from its joint angle; a reload refills the history (R29, R31). -/
def AxisMeasure.jointStep (m : AxisMeasure) (theta period : Int) : AxisMeasure :=
  let h := if m.reloadPending then List.replicate 5 theta else m.history.drop 1 ++ [theta]
  { m with theta := theta, omega := historyRate h period, history := h, reloadPending := false }

/-- Stage 2 of an update but for its stale check (R31, R32). -/
def State.measure (s : State) (a : Axis) : State :=
  let x := s.axis a
  match x.cfg.kind with
  | .joint =>
    s.modAxis a fun x => { x with meas := x.meas.jointStep ((s.jointAngleOf a).getD x.meas.theta) x.cfg.period }
  | _ => s.modAxis a fun x => { x with meas := x.meas.inertialStep (s.inertialRate x.cfg) x.cfg.period }

/-- The stale check of an INERTIAL axis (R24, R32). -/
def State.staleCheck (s : State) (a : Axis) : State :=
  if (s.axis a).cfg.kind == .inertial && s.head.stale && !hasPresent (s.axis a).faults .sensorStall then
    s.raise a .sensorStall
  else s

end Sys2Proof.Machine
end

