-- ==== Sys2Proof/Machine/Setpoint.lean ====
section
/-! DEFINITION. The Setpoint Generator: stage 4 of an update (chapter 4). -/

namespace Sys2Proof.Machine

/-! ### The segment of the stage (R73) -/

/-- The segment the stage follows: the active one, in TRACKING (R72, R73). -/
def AxisState.stageSegment (x : AxisState) : Option Segment :=
  if x.life == .tracking then x.active.map (·.seg) else none

/-- The acceleration of the stage: the segment's, or a_max (R73). -/
def stageAccel (cfg : AxisRecord) (g : Option Segment) : Int :=
  match g with
  | none => cfg.accelLimit
  | some g => g.accel

/-- Δω = max(1, floor(a × T / 1,000,000)) (R76). -/
def rateStepSize (a period : Int) : Int :=
  if floorDiv (a * period) 1000000 < 1 then 1 else floorDiv (a * period) 1000000

/-! ### GOTO (R75) -/

/-- The distance to stop from a rate at an acceleration: floor(ω² / (2a)) (R75, R78). -/
def stopDistance (omega a : Int) : Int := floorDiv (omega * omega) (2 * a)

/-- The arrival test of a GOTO (R75). -/
def gotoArrives (cfg : AxisRecord) (g : Segment) (theta omega : Int) : Bool :=
  decide (magnitude (g.value - theta) ≤ cfg.window) &&
    decide (magnitude omega ≤ rateStepSize g.accel cfg.period)

/-- The target rate of a GOTO that has not arrived (R75). -/
def gotoTarget (g : Segment) (theta omega : Int) : Int :=
  let d := g.value - theta
  if 0 < omega * signOf d ∧ magnitude d ≤ stopDistance omega g.accel then 0 else signOf d * g.cap

/-- The target rate before the soft limits (R73, R75). -/
def rawTarget (g : Option Segment) (c : StreamContext) (theta omega : Int) : Int :=
  match g with
  | none => 0
  | some g =>
    match g.kind with
    | .hold => 0
    | .rate => g.value
    | .goto => gotoTarget g theta omega
    | .stream => c.target
    | .home => g.value

/-! ### Soft limits (R78 to R80) -/

/-- Soft limits are in force: a JOINT axis, homed, whose stage segment is not HOME (R78). -/
def limitsInForce (cfg : AxisRecord) (homed : Bool) (g : Option Segment) : Bool :=
  cfg.kind == .joint && homed &&
    match g with
    | none => true
    | some g => g.kind != .home

/-- The smaller of two numbers. -/
def lesser (x y : Int) : Int := if x ≤ y then x else y

/-- The larger of two numbers. -/
def greater (x y : Int) : Int := if x ≤ y then y else x

/-- The approach rule (R78). -/
def approachTarget (cfg : AxisRecord) (theta omega w : Int) : Int :=
  if 0 < omega ∧ cfg.limMax ≤ theta + stopDistance omega cfg.accelLimit then lesser w 0
  else if omega < 0 ∧ theta - stopDistance omega cfg.accelLimit ≤ cfg.limMin then greater w 0
  else w

/-- A setpoint outside the interval has no target farther out (R79). -/
def outsideTarget (cfg : AxisRecord) (theta w : Int) : Int :=
  if cfg.limMax < theta then lesser w 0 else if theta < cfg.limMin then greater w 0 else w

/-- A setpoint outside the interval has no rate farther out (R79). -/
def outsideRate (cfg : AxisRecord) (theta omega : Int) : Int :=
  if cfg.limMax < theta ∧ 0 < omega then 0 else if theta < cfg.limMin ∧ omega < 0 then 0 else omega

/-! ### Rate step and integration (R76, R77) -/

/-- ω moves toward w by at most Δω (R76). -/
def stepRate (omega w step : Int) : Int :=
  if magnitude (w - omega) ≤ step then w else if omega < w then omega + step else omega - step

/-- The setpoint of a stage: angle, remainder and rate. -/
structure Setpoint where
  theta : Int
  rem : Int
  omega : Int
  deriving DecidableEq, Repr

/-- Integration of the rate just stepped, held in 32 bits (R77). -/
def integrate (theta rem omega period : Int) : Setpoint :=
  let acc := rem + omega * period
  let q := floorDiv acc 1000000
  if 2147483647 < theta + q then { theta := 2147483647, rem := 0, omega := 0 }
  else if theta + q < -2147483648 then { theta := -2147483648, rem := 0, omega := 0 }
  else { theta := theta + q, rem := acc - 1000000 * q, omega := omega }

/-- The limit at which a stage that began at `theta0` makes a limit stop, if it does (R80). -/
def limitStopSide (cfg : AxisRecord) (inForce : Bool) (theta0 theta : Int) : Option LimitSide :=
  if inForce ∧ cfg.limMin ≤ theta0 ∧ theta0 ≤ cfg.limMax then
    if cfg.limMax < theta then some .max else if theta < cfg.limMin then some .min else none
  else none

/-- The angle of a soft limit. -/
def limitAngle (cfg : AxisRecord) (side : LimitSide) : Int :=
  match side with
  | .max => cfg.limMax
  | .min => cfg.limMin

/-- The setpoint after the limit stop (R80). -/
def Setpoint.limitStop (p : Setpoint) (cfg : AxisRecord) (side : Option LimitSide) : Setpoint :=
  match side with
  | none => p
  | some l => { theta := limitAngle cfg l, rem := 0, omega := 0 }

/-- The latch at the end of step 8: the limit stopped at, and NONE when θs is not at the limit it records (R80). -/
def latchAfter (cfg : AxisRecord) (latch stopped : Option LimitSide) (theta : Int) : Option LimitSide :=
  match (match stopped with | some l => some l | none => latch) with
  | none => none
  | some l => if theta = limitAngle cfg l then some l else none

/-! ### The motion of a stage (R72, steps 3 to 9) -/

/-- The target after step 4 (R72, R78, R79). -/
def stageTarget (x : AxisState) (homed : Bool) : Int :=
  let g := x.stageSegment
  let w := rawTarget g x.stream x.gen.theta x.gen.omega
  if limitsInForce x.cfg homed g then
    outsideTarget x.cfg x.gen.theta (approachTarget x.cfg x.gen.theta x.gen.omega w)
  else w

/-- The rate before the rate step (R79). -/
def stageRate (x : AxisState) (homed : Bool) : Int :=
  if limitsInForce x.cfg homed x.stageSegment then outsideRate x.cfg x.gen.theta x.gen.omega else x.gen.omega

/-- The setpoint after steps 5 and 6 (R76, R77). -/
def stageMotion (x : AxisState) (homed : Bool) : Setpoint :=
  integrate x.gen.theta x.gen.rem
    (stepRate (stageRate x homed) (stageTarget x homed)
      (rateStepSize (stageAccel x.cfg x.stageSegment) x.cfg.period))
    x.cfg.period

/-- The limit stop of the stage, if it makes one (R80). -/
def stageStop (x : AxisState) (homed : Bool) : Option LimitSide :=
  limitStopSide x.cfg (limitsInForce x.cfg homed x.stageSegment) x.gen.theta (stageMotion x homed).theta

/-- The generator after a stage that did not arrive (R72, R84). -/
def stageGenerator (x : AxisState) (homed : Bool) : Generator :=
  let p := (stageMotion x homed).limitStop x.cfg (stageStop x homed)
  { x.gen with
    theta := p.theta
    rem := p.rem
    omega := p.omega
    target := stageTarget x homed
    moving := p.omega != 0 || stageTarget x homed != 0
    latch := latchAfter x.cfg x.gen.latch (stageStop x homed) p.theta }

/-- The generator after a GOTO arrival (R75, R80, R84). -/
def arrivalGenerator (x : AxisState) (target : Int) : Generator :=
  { x.gen with
    theta := target
    rem := 0
    omega := 0
    target := 0
    moving := false
    latch := latchAfter x.cfg x.gen.latch none target }

/-- The travel of a HOME search is beyond its cap; with no start angle recorded the test is open (R81; log entry
5). -/
def travelFails (start : Option Int) (theta cap : Int) : Bool :=
  match start with
  | some a => decide (cap < magnitude (theta - a))
  | none => Config.travelWithoutStart theta cap

/-- The stage segment is a HOME whose search has travelled beyond its cap (R81). -/
def AxisState.homeFails (g : Option Segment) (x : AxisState) : Bool :=
  match g with
  | none => false
  | some g => g.kind == .home && travelFails x.gen.homeStart x.gen.theta g.cap

/-- The event of a limit stop: only the first stop of an approach queues one (R80). -/
def State.limitStopEvent (s : State) (a : Axis) (latch stopped : Option LimitSide) : State :=
  match stopped with
  | none => s
  | some l => if latch == some l then s else s.queueEvent (.limitStop a l (limitAngle (s.axis a).cfg l))

/-- Steps 4 to 9 of the stage: motion, HOME travel, limit stop (R72). -/
def State.moveStage (s : State) (a : Axis) (homed : Bool) : State :=
  let x := s.axis a
  let s1 := s.modAxis a fun x => { x with gen := stageGenerator x homed }
  let s2 := if AxisState.homeFails x.stageSegment (s1.axis a) then s1.completeActive a .homeFailed else s1
  s2.limitStopEvent a x.gen.latch (stageStop x homed)

/-- The target of the GOTO that arrives in this stage, if one does (R75). -/
def AxisState.arrivingTarget (x : AxisState) : Option Int :=
  match x.stageSegment with
  | none => none
  | some g =>
    if g.kind == .goto && gotoArrives x.cfg g x.gen.theta x.gen.omega then some g.value else none

/-- The active segment of the stage is marked followed (R72). -/
def AxisState.markFollowed (x : AxisState) : AxisState :=
  { x with active := x.active.map fun c => { c with followed := true } }

/-- Steps 2 to 9 of the stage (R72). -/
def State.followStage (s : State) (a : Axis) (homed : Bool) : State :=
  let s1 := s.modAxis a AxisState.markFollowed
  match (s1.axis a).arrivingTarget with
  | some target =>
    (s1.modAxis a fun x => { x with gen := arrivalGenerator x target }).completeActive a .completed
  | none => s1.moveStage a homed

/-- The re-base of θs to θm (R82, R83). -/
def Generator.rebase (g : Generator) (theta : Int) : Generator :=
  { g with theta := angle32 theta, rem := 0, omega := 0 }

/-- An index reload taken by this update: the start angle becomes none and EVENT HOMED is queued (R82). -/
def State.homedEvent (s : State) (a : Axis) : State :=
  let s1 := s.modAxis a fun x => { x with gen := { x.gen with homeStart := none } }
  match (s.axis a).input with
  | none => s1
  | some i => s1.queueEvent (.homed a i (s.axis a).meas.theta)

/-- The pause re-base (R83). -/
def AxisState.pauseRebase (x : AxisState) : AxisState :=
  { x with gen := { x.gen.rebase x.meas.theta with target := 0, moving := false } }

/-- The reload re-base (R82). -/
def AxisState.reloadRebase (x : AxisState) : AxisState := { x with gen := x.gen.rebase x.meas.theta }

/-- Stage 4 of an update (R72, R82, R83). -/
def State.setpointStage (s : State) (a : Axis) (reloaded homed : Bool) : State :=
  let s1 :=
    if s.pausedAxis a then s.modAxis a AxisState.pauseRebase
    else if reloaded then s.modAxis a AxisState.reloadRebase
    else s
  let s2 := if reloaded then s1.homedEvent a else s1
  if s.pausedAxis a then s2 else s2.followStage a homed

end Sys2Proof.Machine
end

