-- ==== Sys2Proof/Machine/LoopUnit.lean ====
section
/-! DEFINITION. The Stabilisation Loop: stages 6, 7 and 8 of an update (chapter 5). -/

namespace Sys2Proof.Machine

/-! ### Feedforward (R88) -/

/-- The vehicle rate of a channel code, 1 YAW, 2 PITCH, 3 ROLL. -/
def Rates.vehicleChannel (r : Rates) (code : Byte) : Int :=
  match code.toNat with
  | 1 => r.x
  | 2 => r.y
  | _ => r.z

/-- The feedforward of an axis reads 0: its vehicle channel is NONE or the vehicle sample is stale (R88). -/
def State.noVehicle (s : State) (cfg : AxisRecord) : Bool := cfg.vehChannel == 0 || s.vehicle.stale

/-- The value written into the delay line (R88). -/
def State.lineWrite (s : State) (cfg : AxisRecord) : Int :=
  if s.noVehicle cfg then 0 else s.vehicle.rates.vehicleChannel cfg.vehChannel

/-- The head moves on by one entry and a value is written there (R88). -/
def Loop.write (l : Loop) (v : Int) : Loop :=
  { l with head := (l.head + 1) % 16, line := l.line.set ((l.head + 1) % 16) v }

/-- The entry k positions behind the head (R88). -/
def Loop.tapRead (l : Loop) (k : Nat) : Int := l.line.getD ((l.head + 16 - k % 16) % 16) 0

/-- The feedforward, from a delay line already written (R88). -/
def State.feedforward (s : State) (cfg : AxisRecord) (l : Loop) : Int :=
  if s.noVehicle cfg then 0
  else truncDiv (signCode cfg.vehSign * cfg.ffGain * l.tapRead cfg.tap.toNat) 1024

/-! ### Demand (R86 to R94) -/

/-- The gain set in use (R86). -/
def AxisState.gainsInUse (x : AxisState) : Gains := if x.gen.moving then x.move else x.hold

/-- e_full = θs - θm (R87). -/
def AxisState.errorFull (x : AxisState) : Int := x.gen.theta - x.meas.theta

/-- The rate error e_r = ωd - ωm (R87, R89). -/
def AxisState.rateError (x : AxisState) (ff : Int) : Int :=
  clamp
      (x.gen.omega +
          truncDiv (x.gainsInUse.kp * clamp x.errorFull (-x.cfg.errClamp) x.cfg.errClamp) 1024 + ff)
      (-x.cfg.rateLimit) x.cfg.rateLimit -
    x.meas.omega

/-- The proportional term P (R90). -/
def AxisState.proportional (x : AxisState) (er : Int) : Int := truncDiv (x.gainsInUse.kr * er) 65536

/-- Shock ride-through holds the integrator and the tracking timer (R90, R95). -/
def State.riding (s : State) (cfg : AxisRecord) : Bool := cfg.shockRide != 0 && s.shock.active

/-- The integrator increment ΔA (R90). -/
def AxisState.increment (x : AxisState) (er : Int) (riding : Bool) : Int :=
  if riding then 0 else truncDiv (x.gainsInUse.ki * er) 4096

/-- D_fault (R91). -/
def AxisState.faultDerate (x : AxisState) : Int := if x.effective.atLeast .derate then 500 else 1000

/-- The drive limit L in force (R91). -/
def AxisState.driveLimit (x : AxisState) (busDerate : Int) : Int :=
  floorDiv (x.cfg.torque * busDerate * x.faultDerate) 1000000

/-- The integrator after the decision, and the unlimited output u (R92). -/
def integratorDecision (integ p inc bias limit : Int) : Int × Int :=
  let next := clamp (integ + inc) (-256000) 256000
  let u := p + truncDiv next 256 + bias
  if (limit < u ∧ 0 < inc) ∨ (u < -limit ∧ inc < 0) then (integ, p + truncDiv integ 256 + bias) else (next, u)

/-- Clamp, slew and limit follow (R93). -/
def shapeOutput (u uPrev limit slew : Int) : Int :=
  let us := clamp (clamp u (-limit) limit) (uPrev - slew) (uPrev + slew)
  if us < -limit ∨ limit < us then clamp us (-limit) limit else us

/-- The loop after an unpaused computation, from a delay line already written (R86 to R94). -/
def loopCompute (x : AxisState) (l : Loop) (ff busDerate : Int) (riding : Bool) : Loop :=
  let er := x.rateError ff
  let limit := x.driveLimit busDerate
  let d := integratorDecision l.integ (x.proportional er) (x.increment er riding) x.cfg.bias limit
  let out := shapeOutput d.2 l.uPrev limit x.cfg.slew
  { l with
    integ := d.1
    uPrev := out
    uOut := out
    saturated := out != d.2
    moveSet := x.gen.moving
    paused := false }

/-- The loop after a paused stage, from a delay line already written (R99). -/
def loopPaused (l : Loop) : Loop :=
  { l with integ := 0, uPrev := 0, uOut := 0, saturated := false, moveSet := false, paused := true }

/-- Stage 6, on the gain sets as stage 1 left them (R85, R99; log entry 44). -/
def State.loopStage (s : State) (a : Axis) (hold move : Gains) : State :=
  let x := { s.axis a with hold := hold, move := move }
  let l := x.loop.write (s.lineWrite x.cfg)
  let l' :=
    if s.pausedAxis a then loopPaused l
    else loopCompute x l (s.feedforward x.cfg l) s.bus.derate (s.riding x.cfg)
  s.modAxis a fun x => { x with loop := l' }

/-- Stage 7: u_out becomes the handed demand (R94, R104). -/
def AxisState.handOff (x : AxisState) : AxisState := { x with drive := { x.drive with handed := x.loop.uOut } }

/-! ### Watches (R95 to R98) -/

/-- A watch timer that counts by T up to a full value, or is set to 0. -/
def watchTimer (timer period full : Int) (counts : Bool) : Int := if counts then lesser (timer + period) full else 0

/-- A watch timer reaches its full value by an increase. -/
def watchReaches (timer timer' full : Int) : Bool := decide (timer < full) && timer' == full

/-- The tracking timer of an axis changes and its condition follows; it raises on reaching the tracking time (R95). -/
def State.trackingWatch (s : State) (a : Axis) : State :=
  let x := s.axis a
  if s.pausedAxis a || s.riding x.cfg then s
  else
    let full := x.cfg.trackTime * 1000
    let t := watchTimer x.loop.trackTimer x.cfg.period full (decide (x.cfg.trackLimit < magnitude x.errorFull))
    let s1 := s.modAxis a fun x =>
      { x with loop := { x.loop with trackTimer := t } }.setCondition .tracking (t != 0)
    if watchReaches x.loop.trackTimer t full then s1.raise a .tracking else s1

/-- The saturation timer of an axis changes and its condition follows; it raises on reaching the saturation time
(R96). -/
def State.saturationWatch (s : State) (a : Axis) : State :=
  let x := s.axis a
  if s.pausedAxis a then s
  else
    let full := x.cfg.satTime * 1000
    let t := watchTimer x.loop.satTimer x.cfg.period full x.loop.saturated
    let s1 := s.modAxis a fun x =>
      { x with loop := { x.loop with satTimer := t } }.setCondition .saturation (t != 0)
    if watchReaches x.loop.satTimer t full then s1.raise a .saturation else s1

/-- What the overrun check finds: the joint angle against the soft limits widened by the margin (R97). -/
def overrunFinding (cfg : AxisRecord) (joint : Option Int) (homed home : Bool) : Overrun :=
  match joint with
  | none => .notChecked
  | some j =>
    if homed && !home then
      if j < cfg.limMin - cfg.margin ∨ cfg.limMax + cfg.margin < j then .beyond else .inside
    else .notChecked

/-- The overrun check (R97; the segment of a paused update is the active one, log entry 22). -/
def State.overrunWatch (s : State) (a : Axis) (joint : Option Int) (homed home : Bool) : State :=
  let found := overrunFinding (s.axis a).cfg joint homed home
  let s1 := s.modAxis a fun x => { x with loop := { x.loop with overrun := found } }
  if found = .beyond then
    if hasPresent (s.axis a).faults .limitOverrun then s1 else s1.raise a .limitOverrun
  else s1.modAxis a fun x => x.setCondition .limitOverrun false

/-- A watch is made only while the reactions of the earlier ones leave the axis powered (R98). -/
def State.ifPowered (s : State) (a : Axis) (f : State → State) : State :=
  if (s.axis a).life.powered then f s else s

/-- Stage 8: tracking, saturation, overrun, in this order (R98). -/
def State.watchStage (s : State) (a : Axis) (joint : Option Int) (homed home : Bool) : State :=
  ((s.trackingWatch a).ifPowered a fun s => s.saturationWatch a).ifPowered a fun s =>
    s.overrunWatch a joint homed home

end Sys2Proof.Machine
end

