-- ==== Sys2Proof/Machine/Marks.lean ====
section
/-! DEFINITION. The Mark Unit: stage 5 of an update (section 8.4). -/

namespace Sys2Proof.Machine

/-- The crossing of an angle between two measured angles, if there is one (R140). -/
def crossingOf (p c angle : Int) : Option Crossing :=
  if p < angle ∧ angle ≤ c then some .up else if angle < p ∧ c ≤ angle then some .down else none

/-- A direction admits a crossing (R140). -/
def MarkDirection.admits (d : MarkDirection) (x : Crossing) : Bool :=
  match d with
  | .up => x == .up
  | .down => x == .down
  | .either => true

/-- The crossing a mark reports between two measured angles (R140). -/
def Mark.reports (m : Mark) (p c : Int) : Option Crossing :=
  if m.enabled then
    match crossingOf p c m.angle with
    | none => none
    | some x => if m.direction.admits x then some x else none
  else none

/-- A mark after its report: ONCE is disabled (R142). -/
def Mark.reported (m : Mark) : Mark :=
  match m.mode with
  | .once => { m with enabled := false }
  | .repeat => m

/-- The check of one mark (R140, R142). -/
def State.checkMark (s : State) (a : Axis) (p : Int) (id : Fin 4) : State :=
  match (s.axis a).marks.get id with
  | none => s
  | some m =>
    match m.reports p (s.axis a).meas.theta with
    | none => s
    | some x =>
      (s.modAxis a fun x => { x with marks := x.marks.set id (some m.reported) }).queueReport
        (.mark a id x s.time s.sync.frame (s.axis a).meas.theta)

/-- Stage 5: the skipped check clears the skip flag, else every mark is checked in ascending id order (R140,
R141). -/
def State.markStage (s : State) (a : Axis) (p : Int) (reloaded : Bool) : State :=
  if (s.axis a).markSkip || reloaded then s.modAxis a fun x => { x with markSkip := false }
  else [0, 1, 2, 3].foldl (fun s id => s.checkMark a p id) s

end Sys2Proof.Machine
end

