-- ==== Sys2Proof/Machine/Update.lean ====
section
/-! DEFINITION. The axis update: the eight stages in their order (R69). -/

namespace Sys2Proof.Machine

/-- The homed flag of the input an axis names (R33). -/
def State.homedInput (s : State) (a : Axis) : Bool :=
  match (s.axis a).input with
  | none => false
  | some i => (s.encoders.get i).homed

/-- The segment of the setpoint stage is a HOME (R97). -/
def AxisState.stageHome (x : AxisState) : Bool :=
  match x.stageSegment with
  | none => false
  | some g => g.kind == .home

/-- Stage 1, with the update timer's next period (R7, R68). -/
def AxisState.beginUpdate (x : AxisState) (now : Time) : AxisState :=
  { x with updateTimer := some ⟨now, x.cfg.period.toNat⟩ }.applyStagedOf .now

/-- Stages 3 to 8, with what stage 2 read: the reload, the homed flag, the joint angle, and the θm of the update
before (R69), and with the gain sets that stage 1 left (R85). -/
def State.laterStages (s : State) (a : Axis) (p : Int) (reloaded homed : Bool) (joint : Option Int)
    (hold move : Gains) : State :=
  let s3 := s.sequencerStep a reloaded
  let home := (s3.axis a).stageHome
  (((((s3.setpointStage a reloaded homed).decelTest a).markStage a p reloaded).loopStage a hold move).modAxis a
    AxisState.handOff).watchStage a joint homed home

/-- The update of an axis, in a powered state (R68, R69); a stale raise that makes the axis FAULTED ends it with
stage 2 (R24). -/
def State.axisUpdate (s : State) (a : Axis) : State :=
  if (s.axis a).life.powered then
    let s1 := s.modAxis a fun x => x.beginUpdate s.time
    let s2 := (s1.measure a).staleCheck a
    if (s2.axis a).life.powered then
      s2.laterStages a (s.axis a).meas.theta (s.axis a).meas.reloadPending (s1.homedInput a)
        (s1.jointAngleOf a) (s1.axis a).hold (s1.axis a).move
    else s2
  else s

end Sys2Proof.Machine
end

