-- ==== Sys2Proof/Machine/Wire.lean ====
section
/-! DEFINITION. The frames the device sends: the codes and layouts of replies and reports (R145, R149, R157 and the
tables of section 9.10). -/

namespace Sys2Proof.Machine

/-! ### Codes (R149, R157) -/

def Status.code (st : Status) : Byte :=
  match st with
  | .ok => 0
  | .clamped => 1
  | .busy => 2
  | .badState => 3
  | .badArg => 4
  | .queueFull => 5
  | .notHomed => 6
  | .notCalibrated => 7
  | .faultActive => 8
  | .groupConflict => 9
  | .unknownType => 10
  | .badLength => 11

def AxisKind.code (k : AxisKind) : Byte :=
  match k with
  | .none => 0
  | .inertial => 1
  | .joint => 2

def StopMode.code (m : StopMode) : Byte :=
  match m with
  | .pause => 0
  | .latch => 1

/-- 0 PAUSE, 1 LATCH, 2 none. -/
def modeInForceCode (m : Option StopMode) : Byte :=
  match m with
  | none => 2
  | some m => m.code

def CaptureMode.code (m : CaptureMode) : Byte :=
  match m with
  | .long => 0
  | .short => 1

/-- 0 NONE, 1 LONG, 2 SHORT. -/
def activityCode (m : Option CaptureMode) : Byte :=
  match m with
  | none => 0
  | some .long => 1
  | some .short => 2

def Validity.code (v : Validity) : Byte :=
  match v with
  | .invalid => 0
  | .settling => 1
  | .valid => 2

/-- The axis state code of the TELEMETRY per-axis table. -/
def Life.code (l : Life) : Byte :=
  match l with
  | .disabled => 0
  | .idle => 1
  | .arming => 2
  | .tracking => 3
  | .stopping _ _ => 4
  | .held => 5
  | .faulted => 6

def Intent.code (i : Intent) : Byte :=
  match i with
  | .stop => 0
  | .fault => 1
  | .disarm => 2

def Phase.code (p : Phase) : Byte :=
  match p with
  | .decel => 0
  | .engage => 1

/-- The axis state with the STOPPING intent and phase, in three bytes (R157). -/
def Life.bytes (l : Life) : List Byte :=
  match l with
  | .stopping i p => [l.code, i.code, p.code]
  | _ => [l.code, 3, 2]

def SegOutcome.code (o : SegOutcome) : Byte :=
  match o with
  | .completed => 0
  | .superseded => 1
  | .flushed => 2
  | .timeout => 3
  | .homeFailed => 4
  | .stoppedByFault => 5
  | .groupBroken => 6

def AbortReason.code (r : AbortReason) : Byte :=
  match r with
  | .headMotion => 0
  | .vehicleMotion => 1
  | .shock => 2
  | .headStale => 3

def Crossing.code (c : Crossing) : Byte :=
  match c with
  | .up => 0
  | .down => 1

def LimitSide.code (l : LimitSide) : Byte :=
  match l with
  | .max => 0
  | .min => 1

def MarkDirection.code (d : MarkDirection) : Byte :=
  match d with
  | .up => 0
  | .down => 1
  | .either => 2

def MarkMode.code (m : MarkMode) : Byte :=
  match m with
  | .once => 0
  | .repeat => 1

/-- 0 not homed, 1 homed, 2 no encoder. -/
def homedCode (h : Option Bool) : Byte :=
  match h with
  | none => 2
  | some true => 1
  | some false => 0

/-- A code, a count or an axis number in one byte. -/
def putNat8 (n : Nat) : List Byte := [BitVec.ofNat 8 n]

/-- An angle in four bytes (log entry 3). -/
def putAngle (x : Int) : List Byte := put32 (angle32 x)

/-- A tag that may be absent: a presence byte and the tag, 0 when absent (R157). -/
def putOptTag (t : Option Tag) : List Byte :=
  match t with
  | none => [0, 0, 0]
  | some t => 1 :: bytesOf16 t

/-- A list preceded by one byte giving the number of its entries (R157). -/
def putList {α : Type} (f : α → List Byte) (l : List α) : List Byte := putNat8 l.length ++ l.flatMap f

/-! ### Reports -/

/-- The code of an event kind (R164). -/
def EventKind.code (k : EventKind) : Nat :=
  match k with
  | .armed _ => 1
  | .stopped _ => 2
  | .disarmed _ => 3
  | .testDone .. => 4
  | .biasDone .. => 5
  | .biasAborted .. => 6
  | .vehicleLost => 7
  | .vehicleRestored => 8
  | .shock _ => 9
  | .homed .. => 10
  | .limitStop .. => 11
  | .streamLapse .. => 12
  | .streamResumed .. => 13
  | .groupBroken _ => 14
  | .syncLost .. => 15
  | .syncRestored _ => 16
  | .stopLine _ => 17

/-- The arguments of an event (R164; a SYNC_LOST with no edge before it, log entry 34). -/
def EventKind.args (k : EventKind) : List Byte :=
  match k with
  | .armed a | .stopped a | .disarmed a => putNat8 a.val
  | .testDone a peak mean aborted => putNat8 a.val ++ put16 peak ++ put16 mean ++ putBool aborted
  | .biasDone m b => [m.code] ++ put32 b.x ++ put32 b.y ++ put32 b.z
  | .biasAborted m r n => [m.code, r.code] ++ put16 n
  | .vehicleLost | .vehicleRestored => []
  | .shock az => put16 az
  | .homed a i angle => putNat8 a.val ++ putNat8 i.val ++ putAngle angle
  | .limitStop a side angle => putNat8 a.val ++ [side.code] ++ put32 angle
  | .streamLapse a tag | .streamResumed a tag => putNat8 a.val ++ bytesOf16 tag
  | .groupBroken id => putNat8 id
  | .syncLost frame last => bytesOf32 frame ++ bytesOf32 (last.getD 0)
  | .syncRestored frame => bytesOf32 frame
  | .stopLine asserted => putBool asserted

/-- Bits of a flag byte, lowest first. The bits above those that a table lists are sent 0; of the two flag bytes of
TELEMETRY the tables do not say so (DESIGN CHOICE, log entry 42). -/
def flagByte (bits : List Bool) : Byte := BitVec.ofNat 8 (bits.foldr (fun b n => (if b then 1 else 0) + 2 * n) 0)

/-- A TELEMETRY per-axis entry, 21 bytes (section 9.10). -/
def TelemetryEntry.bytes (e : TelemetryEntry) : List Byte :=
  [e.life.code] ++ put32 e.thetaS ++ putAngle e.thetaM ++ put32 e.omegaM ++ put16 e.uOut ++ put16 e.current ++
    [flagByte [e.saturated, e.paused, e.moveSet, e.limitStop, e.activeTag.isNone]] ++ bytesOf16 (e.activeTag.getD 0) ++
    putNat8 e.depth

/-- The TYPE of a report (section 9.4). -/
def Report.type (r : Report) : Byte :=
  match r with
  | .segment .. => 0x60
  | .mark .. => 0x61
  | .fault .. => 0x62
  | .event .. => 0x63
  | .telemetry .. => 0x64

/-- The payload of a report (R66, R128, R142, R164, section 9.10). -/
def Report.payload (r : Report) : List Byte :=
  match r with
  | .segment a tag o missed activated t f =>
    putNat8 a.val ++ bytesOf16 tag ++ [o.code, flagByte [missed, activated]] ++ bytesOf32 t ++ bytesOf32 f
  | .mark a id c t f angle => putNat8 a.val ++ putNat8 id.val ++ [c.code] ++ bytesOf32 t ++ bytesOf32 f ++ putAngle angle
  | .fault a k l n eff life t f =>
    putNat8 a.val ++ putNat8 (kindCode k) ++ putNat8 l.code ++ putNat8 n ++ putNat8 eff.code ++ life.bytes ++
      bytesOf32 t ++ bytesOf32 f
  | .event t f k => putNat8 k.code ++ bytesOf32 t ++ bytesOf32 f ++ k.args
  | .telemetry t f shock stop v mask entries =>
    bytesOf32 t ++ bytesOf32 f ++ [flagByte [shock, stop]] ++ put16 v ++ [mask.setWidth 8] ++
      entries.flatMap TelemetryEntry.bytes

/-! ### Replies -/

/-- The configuration record as carried, 66 bytes in the order of section 1.2 (R157). -/
def AxisRecord.bytes (r : AxisRecord) : List Byte :=
  [r.kind.code] ++ put16 r.period ++ [r.gyroChannel, r.gyroSign, r.encoder] ++ put16 r.num ++ put16 r.den ++
    put32 r.indexRef ++ put32 r.limMin ++ put32 r.limMax ++ put16 r.margin ++ put32 r.rateLimit ++
    put32 r.accelLimit ++ put16 r.window ++ put32 r.errClamp ++ put32 r.trackLimit ++ put16 r.trackTime ++
    put16 r.torque ++ put16 r.slew ++ put16 r.bias ++ put16 r.satTime ++ put16 r.trip ++ put16 r.deadTime ++
    put16 r.releaseTime ++ put16 r.engageTime ++ [r.vehChannel, r.vehSign] ++ put16 r.ffGain ++ put8 r.tap ++
    [r.shockRide]

def Gains.bytes (g : Gains) : List Byte := put16 g.kp ++ put16 g.kr ++ put16 g.ki

/-- A mark of READ_AXIS in 8 bytes, 0 for an absent one (R157). -/
def markBytes (m : Option Mark) : List Byte :=
  match m with
  | none => [0, 0, 0, 0, 0, 0, 0, 0]
  | some m => [1] ++ put32 m.angle ++ [m.direction.code, m.mode.code] ++ putBool m.enabled

def FaultEntry.bytes (e : FaultEntry) : List Byte :=
  putNat8 (kindCode e.kind) ++ putNat8 e.level.code ++ putNat8 e.count ++ bytesOf32 e.firstRaise ++ putBool e.present

def AxisStatus.bytes (v : AxisStatus) : List Byte :=
  v.life.bytes ++ [homedCode v.homed] ++ putList (fun p => putNat8 (kindCode p.1) ++ putNat8 p.2) v.faults ++
    putNat8 v.effective.code ++ putNat8 v.depth ++ putOptTag v.activeTag

/-- The fields of READ_STATUS after its status, in the order of R158. -/
def DeviceStatus.bytes (v : DeviceStatus) : List Byte :=
  bytesOf32 v.time ++ putBool v.stopAsserted ++ [v.storedMode.code, modeInForceCode v.modeInForce, v.validity.code,
    activityCode v.activity] ++ putBool v.headPresent ++ putBool v.vehiclePresent ++ putBool v.syncPresent ++
    putBool v.shock ++ put16 v.voltage ++ put16 v.derate ++ putNat8 v.dropped ++ putBool v.reportsLost ++
    v.axes.flatMap AxisStatus.bytes

/-- The fields of READ_AXIS after its status, in the order of R160. -/
def AxisDetail.bytes (v : AxisDetail) : List Byte :=
  putNat8 v.axis.val ++ v.cfg.bytes ++ v.hold.bytes ++ v.move.bytes ++ putBool v.stagedFlag ++
    markBytes v.marks.f0 ++ markBytes v.marks.f1 ++ markBytes v.marks.f2 ++ markBytes v.marks.f3 ++
    putList FaultEntry.bytes v.faults ++ put32 v.integ ++ put16 v.uPrev ++ put32 v.thetaS ++ put32 v.rem ++
    put32 v.omegaS ++ putAngle v.thetaM

/-- The fixed values of IDENTIFY (R161; their sizes, log entry 18). -/
def identityBytes : List Byte := [0x56, 0x40, 0x04, 3, 4, 8, 4, 4]

/-- The part of a reply payload after its status (R149). -/
def ReplyBody.bytes (b : ReplyBody) : List Byte :=
  match b with
  | .alone => []
  | .statuses l => putList (fun st => [st.code]) l
  | .kept l => putList (fun p => [p.1.code] ++ putList (fun k => putNat8 (kindCode k)) p.2) l
  | .depth d => [d]
  | .level l => putNat8 l.code
  | .identity => identityBytes
  | .deviceStatus v => v.bytes
  | .axisDetail v => v.bytes

/-! ### Frames -/

/-- The TYPE of a frame being sent: 0x80 is added to a reply's (R149). For a request TYPE of 0x80 or above the sum does
not fit the byte and wraps (DESIGN CHOICE, log entry 41). -/
def Outgoing.type (o : Outgoing) : Byte :=
  match o with
  | .reply r => r.type + 0x80
  | .report r => r.type

/-- The TAG of a frame being sent: the request's, 0 for a report (R149, R157). -/
def Outgoing.tag (o : Outgoing) : Tag :=
  match o with
  | .reply r => r.tag
  | .report _ => 0

/-- The payload of a frame being sent. -/
def Outgoing.payload (o : Outgoing) : List Byte :=
  match o with
  | .reply r => r.status.code :: r.body.bytes
  | .report r => r.payload

/-- The bytes of a frame from LEN to the last payload byte. -/
def frameBody (type : Byte) (tag : Tag) (payload : List Byte) : List Byte :=
  BitVec.ofNat 8 payload.length :: type :: bytesOf16 tag ++ payload

/-- A whole link frame: start byte, body, CRC most significant byte first (section 9.10). -/
def linkFrame (type : Byte) (tag : Tag) (payload : List Byte) : List Byte :=
  let body := frameBody type tag payload
  0xC3 :: body ++ [((crc16 body) >>> 8).setWidth 8, (crc16 body).setWidth 8]

/-- The bytes of the frame being sent. -/
def Outgoing.frame (o : Outgoing) : List Byte := linkFrame o.type o.tag o.payload

/-- How long a frame takes to send: 5 µs a character (section 9.1). -/
def Outgoing.sendTime (o : Outgoing) : Nat := 5 * (7 + o.payload.length)

end Sys2Proof.Machine
end

