-- ==== Sys2Proof/Machine/LinkUnit.lean ====
section
/-! DEFINITION. The Control Link: the receive framer, valid frames, the processing of requests (sections 9.1 to
9.3). -/

namespace Sys2Proof.Machine

/-! ### Processing a request (R148, R149) -/

/-- What an owner answers for a request: its status, the rest of its reply, and the state after it. -/
structure Answer where
  status : Status
  body : ReplyBody
  state : State

/-- An answer of a status alone that changes nothing. -/
def refuse (s : State) (st : Status) : Answer := ⟨st, .alone, s⟩

/-- A request can be processed now: a reply slot is empty, no RESET is pending, and the request stands at the head of
the inbound queue or, that queue being empty, comes straight to it (R148; log entry 11). -/
def State.canProcess (s : State) (r : Request) : Bool :=
  decide (s.link.replies.length < 8) && !s.link.resetPending &&
    match s.link.inbound with
    | [] => true
    | q :: _ => q == r

/-- Step 4 of the processing: the reply is placed and the request leaves the inbound queue (R148). -/
def State.finishRequest (s : State) (r : Request) (st : Status) (b : ReplyBody) : State :=
  { s with
    link :=
      { s.link with
        inbound := s.link.inbound.drop 1
        replies := s.link.replies ++ [{ type := r.type, tag := r.tag, status := st, body := b }] } }

/-- The answer to a request: UNKNOWN_TYPE, BAD_LENGTH, or its owner's (R148). -/
def answerRequest (r : Request) (owner : List Byte → State → Answer) (s : State) : Answer :=
  match requestLength r.type with
  | none => refuse s .unknownType
  | some n => if r.payload.length = n then owner r.payload s else refuse s .badLength

/-- The processing event of a request, whole; it waits, and nothing happens, where it cannot be processed (R148).
The transmitter, if idle, then takes a frame (R152). -/
def State.process (s : State) (r : Request) (owner : List Byte → State → Answer) : State :=
  if s.canProcess r then
    let ans := answerRequest r owner s
    (ans.state.finishRequest r ans.status ans.body).startTransmit
  else s

/-! ### Masks (R8) -/

/-- The leading status of a list: OK, or the first that is not (R8, R129). -/
def leadingStatus (l : List Status) : Status := (l.find? fun st => st != .ok).getD .ok

/-- Judge each axis of a list in order, gathering the statuses (R8). -/
def judgeAxes (f : State → Axis → Status × State) (axes : List Axis) (s : State) : List Status × State :=
  match axes with
  | [] => ([], s)
  | a :: rest =>
    let r := f s a
    let t := judgeAxes f rest r.2
    (r.1 :: t.1, t.2)

/-- A request on an axis mask: BAD_ARG when an upper bit is set, else one status for each axis of the mask, in
ascending order (R8; a BAD_ARG carries an empty list, log entry 12). -/
def maskRequest (mask : Byte) (f : State → Axis → Status × State) (s : State) : Answer :=
  match maskOfByte mask with
  | none => ⟨.badArg, .statuses [], s⟩
  | some m =>
    let r := judgeAxes f (maskAxes m) s
    ⟨leadingStatus r.1, .statuses r.1, r.2⟩

/-! ### Valid frames (R146, R147) -/

/-- One entry of a stream message (R63). -/
def State.streamEntry (s : State) (e : Byte × Int) : State :=
  match fourOfByte e.1 with
  | none => s
  | some a => if (s.axis a).life.configured then s.storeStream a e.2 else s

/-- A stream message is judged and applied (R147, R63). -/
def State.streamMessage (s : State) (p : List Byte) : State :=
  match streamEntries p with
  | none => s
  | some l => l.foldl State.streamEntry s

/-- A request joins the inbound queue, or is dropped when the queue holds 8 (R146). -/
def State.enqueueRequest (s : State) (r : Request) : State :=
  if s.link.inbound.length < 8 then { s with link := { s.link with inbound := s.link.inbound ++ [r] } }
  else { s with link := { s.link with dropped := if s.link.dropped < 255 then s.link.dropped + 1 else s.link.dropped } }

/-- Step 1 of a valid frame: the link silence timer restarts and the LINK_SILENCE condition is absent (R146, R126,
R153; log entry 23). -/
def State.linkHeard (s : State) : State :=
  { s with link := { s.link with silence := some (s.startMs s.settings.silence) } }.endCondition .linkSilence

/-- A valid frame acts at its completion (R146). -/
def State.validFrame (s : State) (type : Byte) (tag : Tag) (payload : List Byte) : State :=
  if type = 0x40 then s.linkHeard.streamMessage payload
  else s.linkHeard.enqueueRequest { type := type, tag := tag, payload := payload }

/-- A complete frame, its bytes from LEN to the second CRC byte, is judged by its CRC (R145). -/
def State.judgeFrame (s : State) (b : List Byte) : State :=
  let body := b.take (b.length - 2)
  if crc16 body = (byteAt b (b.length - 2) ++ byteAt b (b.length - 1) : BitVec 16) then
    s.validFrame (byteAt b 1) (byteAt b 3 ++ byteAt b 2) (body.drop 4)
  else s

/-! ### The receive framer (R144) -/

/-- The framer replaced, its last character now. -/
def State.setFramer (s : State) (st : FramerState) (b : List Byte) : State :=
  { s with link := { s.link with framer := { state := st, bytes := b, lastTime := s.time } } }

/-- The framer abandons the frame in progress and hunts (R144). -/
def State.abandonFrame (s : State) : State :=
  { s with
    link := { s.link with framer := { state := .hunt, bytes := [], lastTime := s.link.framer.lastTime } } }

/-- The framer takes a byte of a header: LEN, TYPE, or a TAG byte (R144). -/
def State.takeHeader (s : State) (b : List Byte) (c : Byte) : State :=
  match b with
  | [] => if 248 < c.toNat then s.setFramer .hunt [] else s.setFramer .header [c]
  | len :: _ =>
    if b.length < 3 then s.setFramer .header (b ++ [c])
    else s.setFramer (if len = 0 then .check else .payload) (b ++ [c])

/-- The framer takes a payload byte; after the LEN-th the CRC follows (R144). -/
def State.takePayload (s : State) (b : List Byte) (c : Byte) : State :=
  s.setFramer (if b.length + 1 < 4 + (byteAt b 0).toNat then .payload else .check) (b ++ [c])

/-- The framer takes a CRC byte; the second completes the frame (R144). -/
def State.takeCheck (s : State) (b : List Byte) (c : Byte) : State :=
  if b.length + 1 < 6 + (byteAt b 0).toNat then s.setFramer .check (b ++ [c])
  else (s.setFramer .hunt []).judgeFrame (b ++ [c])

/-- The framer takes a character (R144). -/
def State.takeLinkCharacter (s : State) (c : Byte) : State :=
  match s.link.framer.state with
  | .hunt => if c = 0xC3 then s.setFramer .header [] else s
  | .header => s.takeHeader s.link.framer.bytes c
  | .payload => s.takePayload s.link.framer.bytes c
  | .check => s.takeCheck s.link.framer.bytes c

end Sys2Proof.Machine
end

