-- ==== Sys2Proof/Machine/Requests.lean ====
section
/-! DEFINITION. The owners of the requests: what each judges, does and answers (chapters 1, 2, 3, 7, 8 and 10).  A
payload reaches an owner only at the length of its TYPE (R148). -/

namespace Sys2Proof.Machine

/-- OK, or CLAMPED when a value was changed. -/
def okOrClamped (changed : Bool) : Status := if changed then .clamped else .ok

/-! ### SET_DEVICE (R1, R135) -/

/-- A change of the edge selection to OFF while sync is present takes the effects of a loss (R135, R137). -/
def State.syncOff (s : State) : State :=
  if s.sync.present then
    (({ s with sync := { s.sync with present := false, lossTimer := none } }.queueEvent
        (.syncLost s.sync.frame s.sync.lastEdge)).syncLossStarts)
  else s

/-- The settings are stored together (R1). -/
def State.storeSettings (s : State) (x : Settings) : State :=
  let s1 : State := { s with settings := x }
  if x.edge == .off then s1.syncOff else s1

/-- No axis is in ARMING, TRACKING, STOPPING, HELD or FAULTED (R1). -/
def State.allAtRest (s : State) : Bool :=
  allAxes.all fun a => (s.axis a).life == .idle || (s.axis a).life == .disabled

def ownSetDevice (p : List Byte) (s : State) : Answer :=
  if !s.allAtRest then refuse s .badState
  else
    match stopModeOfByte (byteAt p 4), edgeOfByte (byteAt p 5) with
    | some m, some e =>
      let x := readSettings p m e
      if x.clamped.vDerate ≤ x.clamped.vCut ∨ x.clamped.vOver ≤ x.clamped.vDerate then refuse s .badArg
      else ⟨okOrClamped (x.clamped != x), .alone, s.storeSettings x.clamped⟩
    | _, _ => refuse s .badArg

/-! ### CONFIGURE_AXIS (R3 to R5) -/

/-- The encoder input a record names is mapped to another axis (R3). -/
def State.mappedElsewhere (s : State) (a : Axis) (r : AxisRecord) : Bool :=
  match fourOfByte r.encoder with
  | none => false
  | some i => allAxes.any fun b => b != a && (s.axis b).input == some i

/-- The record names the encoder input that the record before it named, and that input's hold runs (R4). -/
def State.holdKept (s : State) (x : AxisState) (r : AxisRecord) : Bool :=
  match fourOfByte r.encoder with
  | none => false
  | some i => x.input == some i && (s.encoders.get i).hold.isSome

/-- The condition flags an applied record leaves on a kept fault set (R4). -/
def keptFaults (l : List FaultEntry) (hold inertial : Bool) : List FaultEntry :=
  let l1 := if hold then l else setPresent l .encoderFault false
  if inertial then l1 else setPresent l1 .sensorStall false

/-- What an applied record of any kind clears: gains, staged record, stream context (R4, R5, R65). -/
def AxisState.freshRecord (x : AxisState) (r : AxisRecord) : AxisState :=
  { x with cfg := r, hold := ⟨0, 0, 0⟩, move := ⟨0, 0, 0⟩, staged := none, stream := .cleared }

/-- A record of kind INERTIAL or JOINT is applied (R4, R143). -/
def State.applyRecord (s : State) (a : Axis) (r : AxisRecord) : State :=
  if (s.axis a).life == .disabled then
    s.modAxis a fun x => { x.freshRecord r with life := .idle, marks := .fill none }
  else
    (s.flushAll a .flushed).modAxis a fun x =>
      { x.freshRecord r with faults := keptFaults x.faults (s.holdKept (s.axis a) r) (r.kind == .inertial) }

/-- A record of kind NONE is applied (R5). -/
def State.deconfigure (s : State) (a : Axis) : State :=
  (s.flushAll a .flushed).modAxis a fun x =>
    { x.freshRecord .zero with life := .disabled, marks := .fill none, faults := [] }

/-- Steps 3 to 5 of the judgement and the application of a record (R3, R4). -/
def judgeRecord (s : State) (a : Axis) (r : AxisRecord) : Answer :=
  if !r.codesListed || s.mappedElsewhere a r then refuse s .badArg
  else if r.clamped.limMax ≤ r.clamped.limMin then refuse s .badArg
  else ⟨okOrClamped (r.clamped != r), .alone, s.applyRecord a r.clamped⟩

def ownConfigureAxis (p : List Byte) (s : State) : Answer :=
  match fourOfByte (byteAt p 0) with
  | none => refuse s .badArg
  | some a =>
    if (s.axis a).life != .disabled && (s.axis a).life != .idle then refuse s .badState
    else if (s.axis a).test.running then refuse s .busy
    else
      match kindOfByte (byteAt p 1) with
      | none => refuse s .badArg
      | some .none => ⟨.ok, .alone, s.deconfigure a⟩
      | some k => judgeRecord s a (readRecord p k)

/-! ### SET_GAINS (R6) -/

/-- A SET_GAINS on a configured axis: staged while the loop runs, written at once otherwise (R6). -/
def AxisState.takeGains (x : AxisState) (g : StagedGain) : AxisState :=
  if x.life.powered then { x with staged := some g } else { x with staged := some g }.applyStaged

def ownSetGains (p : List Byte) (s : State) : Answer :=
  match fourOfByte (byteAt p 0), targetOfByte (byteAt p 1), applyOfByte (byteAt p 8) with
  | some a, some t, some m =>
    if (s.axis a).life == .disabled then refuse s .badState
    else
      let g : Gains := { kp := readU16 p 2, kr := readU16 p 4, ki := clamp (readU16 p 6) 0 4095 }
      ⟨okOrClamped (g.ki != readU16 p 6), .alone, s.modAxis a fun x => x.takeGains ⟨t, g, m⟩⟩
  | _, _, _ => refuse s .badArg

/-! ### SET_REACTION (R122) -/

def ownSetReaction (p : List Byte) (s : State) : Answer :=
  match kindOfCode (byteAt p 0).toNat, levelOfCode (byteAt p 1).toNat with
  | some k, some l =>
    ⟨okOrClamped (l.sup (lowestLevel k) != l), .level (l.sup (lowestLevel k)),
      { s with reactions := s.reactions.set k (l.sup (lowestLevel k)) }⟩
  | _, _ => refuse s .badArg

/-! ### SET_MARK (R139) -/

def ownSetMark (p : List Byte) (s : State) : Answer :=
  match fourOfByte (byteAt p 0), fourOfByte (byteAt p 1), directionOfByte (byteAt p 6), markModeOfByte (byteAt p 7),
    boolOfByte (byteAt p 8) with
  | some a, some id, some d, some m, some e =>
    if (s.axis a).life == .disabled then refuse s .badState
    else
      ⟨.ok, .alone,
        s.modAxis a fun x =>
          { x with marks := x.marks.set id (some { angle := readS32 p 2, direction := d, mode := m, enabled := e }) }⟩
  | _, _, _, _, _ => refuse s .badArg

/-! ### SET_TELEMETRY (R162) -/

/-- The length in ms of a telemetry interval code; 0 is OFF (R162). -/
def telemetryMs (code : Nat) : Int :=
  match code with
  | 1 => 1
  | 2 => 2
  | 3 => 5
  | 4 => 10
  | 5 => 20
  | 6 => 50
  | 7 => 100
  | _ => 0

/-- The interval timer of a code, started now; none for OFF (R162). -/
def State.telemetryStart (s : State) (code : Nat) : Option Timer :=
  if code = 0 then none else some (s.startMs (telemetryMs code))

def ownSetTelemetry (p : List Byte) (s : State) : Answer :=
  match maskOfByte (byteAt p 1) with
  | none => refuse s .badArg
  | some m =>
    if 7 < (byteAt p 0).toNat then refuse s .badArg
    else
      ⟨.ok, .alone,
        { s with
          link :=
            { s.link with
              telemetryCode := (byteAt p 0).toNat
              telemetryMask := m
              telemetryTimer := s.telemetryStart (byteAt p 0).toNat } }⟩

/-! ### ARM (R8) -/

/-- The bus does not admit an arming or a drive test: no sample since the reset, or the last one at or below V_cut
(R8, R18; the V_cut stored now, log entry 35). -/
def State.busRefuses (s : State) : Bool := !s.bus.sampled || decide (s.bus.voltage ≤ s.settings.vCut)

/-- The status of an axis of an ARM (R8). -/
def armStatus (s : State) (a : Axis) : Status :=
  let x := s.axis a
  if x.life != .idle then .badState
  else if x.test.running then .busy
  else if x.effective.atLeast .stop then .faultActive
  else if s.stopLine.asserted then .badState
  else if s.busRefuses then .faultActive
  else if x.cfg.kind == .inertial && s.bias.validity != .valid then .notCalibrated
  else .ok

/-- ARM on one axis of the mask (R8, R9). -/
def armOne (s : State) (a : Axis) : Status × State :=
  (armStatus s a, if armStatus s a == .ok then s.armAxis a else s)

def ownArm (p : List Byte) (s : State) : Answer := maskRequest (byteAt p 0) armOne s

/-! ### STOP (R11) -/

/-- STOP on one axis of the mask (R10, R11). -/
def stopOne (s : State) (a : Axis) : Status × State :=
  match (s.axis a).life with
  | .tracking => (.ok, (s.flushAll a .flushed).setLife a (.stopping .stop .decel))
  | .arming => (.ok, s.flushAll a .flushed)
  | .stopping _ _ => (.ok, s)
  | _ => (.badState, s)

def ownStop (p : List Byte) (s : State) : Answer := maskRequest (byteAt p 0) stopOne s

/-! ### DISARM (R12) -/

/-- DISARM on one axis of the mask (R10, R12). -/
def disarmOne (s : State) (a : Axis) : Status × State :=
  match (s.axis a).life with
  | .tracking => (.ok, (s.flushAll a .flushed).setLife a (.stopping .disarm .decel))
  | .stopping .disarm _ => (.ok, s)
  | .stopping _ _ => (.ok, (s.flushAll a .flushed).setLife a (.stopping .disarm .decel))
  | .arming => (.ok, (s.flushAll a .flushed).enterEngage a)
  | .held => (.ok, s.enterEngage a)
  | _ => (.badState, s)

def ownDisarm (p : List Byte) (s : State) : Answer := maskRequest (byteAt p 0) disarmOne s

/-! ### FLUSH (R61) -/

/-- FLUSH on one axis of the mask (R61). -/
def flushOne (all : Bool) (s : State) (a : Axis) : Status × State :=
  if (s.axis a).life == .disabled then (.badState, s)
  else (.ok, if all then s.flushAll a .flushed else s.flushWaiting a .flushed)

def ownFlush (p : List Byte) (s : State) : Answer :=
  match flushAllOfByte (byteAt p 1) with
  | none => ⟨.badArg, .statuses [], s⟩
  | some all => maskRequest (byteAt p 0) (flushOne all) s

/-! ### CLEAR_FAULTS (R129) -/

/-- CLEAR_FAULTS over the axes of a list in order: the status and the kinds kept of each, in set order. -/
def clearAxes (axes : List Axis) (s : State) : List (Status × List FaultKind) × State :=
  match axes with
  | [] => ([], s)
  | a :: rest =>
    if (s.axis a).life.configured then
      let s1 := s.clearAxis a
      let t := clearAxes rest s1
      ((.ok, (s1.axis a).faults.map (·.kind)) :: t.1, t.2)
    else
      let t := clearAxes rest s
      ((.badState, []) :: t.1, t.2)

def ownClearFaults (p : List Byte) (s : State) : Answer :=
  match maskOfByte (byteAt p 0) with
  | none => ⟨.badArg, .kept [], s⟩
  | some m =>
    let r := clearAxes (maskAxes m) s
    ⟨leadingStatus (r.1.map (·.1)), .kept r.1, r.2⟩

/-! ### BIAS_CAPTURE (R34, R35) -/

/-- Every INERTIAL axis is IDLE or DISABLED (R34). -/
def State.inertialAtRest (s : State) : Bool :=
  allAxes.all fun a =>
    (s.axis a).cfg.kind != .inertial || (s.axis a).life == .idle || (s.axis a).life == .disabled

/-- The status of a BIAS_CAPTURE of a mode (R34). -/
def captureStatus (s : State) (m : CaptureMode) : Status :=
  if s.bias.activity.isSome then .busy
  else
    match m with
    | .long =>
      if s.bias.validity == .settling then .busy else if !s.inertialAtRest then .badState else .ok
    | .short => if s.bias.validity != .valid then .notCalibrated else .ok

/-- A capture begins; with a stale head it aborts at once (R35). -/
def State.beginCapture (s : State) (m : CaptureMode) : State :=
  let s1 : State :=
    { s with
      bias :=
        { s.bias with
          activity := some m
          sums := ⟨0, 0, 0⟩
          count := 0
          prior := if m == CaptureMode.long then some s.bias.validity else s.bias.prior
          validity := if m == CaptureMode.long then .invalid else s.bias.validity } }
  if s.head.stale then s1.abortCapture .headStale else s1

def ownBiasCapture (p : List Byte) (s : State) : Answer :=
  match captureOfByte (byteAt p 0) with
  | none => refuse s .badArg
  | some m => ⟨captureStatus s m, .alone, if captureStatus s m == .ok then s.beginCapture m else s⟩

/-! ### DRIVE_TEST (R18) -/

/-- The refusal of a DRIVE_TEST on an axis, if it is refused (R18). -/
def testRefusal (s : State) (a : Axis) : Option Status :=
  let x := s.axis a
  if x.life != .idle then some .badState
  else if x.test.running then some .busy
  else if x.effective.atLeast .stop then some .faultActive
  else if s.stopLine.asserted then some .badState
  else if s.busRefuses then some .faultActive
  else none

/-- A drive test of a demand and a duration in ms is accepted (R18). -/
def State.beginTest (s : State) (a : Axis) (demand ms : Int) : State :=
  (s.modAxis a fun x =>
    { x with
      test :=
        { running := true, demand := demand, endTime := s.time + BitVec.ofInt 32 (ms * 1000), peak := 0, sum := 0
          count := 0 } }).requestDrive a .run

def ownDriveTest (p : List Byte) (s : State) : Answer :=
  match fourOfByte (byteAt p 0) with
  | none => refuse s .badArg
  | some a =>
    match testRefusal s a with
    | some st => refuse s st
    | none =>
      let demand := clamp (readS16 p 1) (-300) 300
      let ms := clamp (readU16 p 3) 1 2000
      ⟨okOrClamped (demand != readS16 p 1 || ms != readU16 p 3), .alone, s.beginTest a demand ms⟩

/-! ### RESET (R154) -/

def ownReset (_ : List Byte) (s : State) : Answer :=
  ⟨.ok, .alone, { s with link := { s.link with resetPending := true } }⟩

/-! ### QUEUE_SEGMENT (R44 to R47) -/

/-- The encoder input of a JOINT axis is homed. -/
def State.homedJoint (s : State) (a : Axis) : Bool := (s.axis a).cfg.kind == .joint && s.homedInput a

/-- Steps 4 and 5 of R44: arguments and homing. -/
def argumentRefusal (s : State) (a : Axis) (c : CarriedSegment) : Option Status :=
  match c.kind with
  | .hold | .stream => none
  | .rate => if c.value.isNone then some .badArg else none
  | .goto =>
    if c.value.isNone || c.cap.getD 0 ≤ 0 then some .badArg
    else if (s.axis a).cfg.kind == .joint && !s.homedInput a then some .notHomed
    else none
  | .home =>
    if (s.axis a).cfg.kind == .inertial || c.value.getD 0 == 0 || c.cap.getD 0 ≤ 0 then some .badArg else none

/-- The group tests (R45). -/
def groupRefusal (s : State) (a : Axis) (c : CarriedSegment) : Option Status :=
  if c.group = 0 then none
  else if !maskHas (c.members.setWidth 4) a then some .badArg
  else
    match s.findGroup c.group with
    | some e =>
      if e.members != c.members.setWidth 4 then some .badArg
      else if e.start != c.start then some .badArg
      else if maskHas e.queued a then some .groupConflict
      else none
    | none => if 4 ≤ s.groups.length then some .groupConflict else none

/-- Steps 2 to 6 of R44. -/
def segmentRefusal (s : State) (a : Axis) (c : CarriedSegment) : Option Status :=
  match (s.axis a).life with
  | .idle | .arming | .tracking =>
    if 8 ≤ (s.axis a).depth then some .queueFull
    else
      match argumentRefusal s a c with
      | some st => some st
      | none => groupRefusal s a c
  | _ => some .badState

/-- The stored value of a carried one (R46). -/
def storedValue (x : AxisState) (homed : Bool) (k : SegKind) (v : Int) : Int :=
  match k with
  | .rate | .home => clamp v (-x.cfg.rateLimit) x.cfg.rateLimit
  | .goto => if homed then clamp v x.cfg.limMin x.cfg.limMax else v
  | _ => 0

/-- The stored cap of a carried one (R46). -/
def storedCap (x : AxisState) (k : SegKind) (v : Int) : Int :=
  match k with
  | .goto => lesser v x.cfg.rateLimit
  | .home => v
  | _ => 0

/-- The stored acceleration of a carried one: 0 stands for a_max (R46). -/
def storedAccel (x : AxisState) (v : Int) : Int :=
  if v = 0 then x.cfg.accelLimit else clamp v 1000 x.cfg.accelLimit

/-- The stored segment (R46), `homed` saying that the axis is a homed JOINT axis.  R46 bounds the duration from above only,
so that a negative one is stored as carried (DEDUCED, log entry 17). -/
def storedSegment (x : AxisState) (homed : Bool) (c : CarriedSegment) : Segment :=
  { tag := c.tag
    kind := c.kind
    value := storedValue x homed c.kind (c.value.getD 0)
    cap := storedCap x c.kind (c.cap.getD 0)
    accel := storedAccel x c.accel
    duration := lesser c.duration 600000
    start := c.start
    group := c.group
    members := c.members.setWidth 4
    notify := c.notify }

/-- The kind uses a value. -/
def SegKind.usesValue (k : SegKind) : Bool :=
  match k with
  | .rate | .goto | .home => true
  | _ => false

/-- The kind uses a cap. -/
def SegKind.usesCap (k : SegKind) : Bool :=
  match k with
  | .goto | .home => true
  | _ => false

/-- Step 7 of R44 changed a value. -/
def segmentChanged (c : CarriedSegment) (g : Segment) : Bool :=
  (c.kind.usesValue && g.value != c.value.getD 0) || (c.kind.usesCap && g.cap != c.cap.getD 0) ||
    (c.accel != 0 && g.accel != c.accel) || g.duration != c.duration

/-- The axis joins the queued mask of the open entry of a group, which is created if none is open (R47, R56). -/
def State.joinGroup (s : State) (a : Axis) (g : Segment) : State :=
  if g.group = 0 then s
  else
    match s.findGroup g.group with
    | some _ => s.modGroup g.group fun e => { e with queued := maskAdd e.queued a }
    | none =>
      { s with
        groups :=
          s.groups ++
            [{ id := g.group, members := g.members, start := g.start, queued := maskAdd 0 a, arrived := 0
               remaining := none, syncMissed := false }] }

/-- Acceptance of a segment (R47). -/
def State.acceptSegment (s : State) (a : Axis) (g : Segment) : State :=
  let s1 := (s.modAxis a fun x => { x with waiting := x.waiting ++ [g] }).joinGroup a g
  if (s.axis a).waiting.isEmpty then s1.judge [a] else s1

/-- The depth byte of a QUEUE_SEGMENT reply: the axis's depth, a free value where the number names no axis (R44; log
entry 4). -/
def depthByte (s : State) (b : Byte) : Byte :=
  match fourOfByte b with
  | some a => BitVec.ofNat 8 (s.axis a).depth
  | none => Config.depthOfNoAxis b

def ownQueueSegment (p : List Byte) (s : State) : Answer :=
  match fourOfByte (byteAt p 0), readSegment p with
  | some a, some c =>
    match segmentRefusal s a c with
    | some st => ⟨st, .depth (depthByte s (byteAt p 0)), s⟩
    | none =>
      let g := storedSegment (s.axis a) (s.homedJoint a) c
      let t := s.acceptSegment a g
      ⟨okOrClamped (segmentChanged c g), .depth (depthByte t (byteAt p 0)), t⟩
  | _, _ => ⟨.badArg, .depth (depthByte s (byteAt p 0)), s⟩

/-! ### READ_STATUS, READ_AXIS, IDENTIFY (chapter 10) -/

/-- The homed flag READ_STATUS reports, `none` for no encoder (R158). -/
def State.homedReport (s : State) (a : Axis) : Option Bool :=
  (s.axis a).input.map fun i => (s.encoders.get i).homed

/-- The tag of the active segment, if one is active. -/
def AxisState.activeTag (x : AxisState) : Option Tag := x.active.map fun c => c.seg.tag

/-- The per-axis part of READ_STATUS (R158). -/
def State.axisStatus (s : State) (a : Axis) : AxisStatus :=
  { life := (s.axis a).life
    homed := s.homedReport a
    faults := (s.axis a).faults.map fun e => (e.kind, e.count)
    effective := (s.axis a).effective
    depth := (s.axis a).depth
    activeTag := (s.axis a).activeTag }

/-- What READ_STATUS reports (R158). -/
def State.deviceStatus (s : State) : DeviceStatus :=
  { time := s.time
    stopAsserted := s.stopLine.asserted
    storedMode := s.settings.stopMode
    modeInForce := s.stopLine.mode
    validity := s.bias.validity
    activity := s.bias.activity
    headPresent := !s.head.stale
    vehiclePresent := !s.vehicle.stale
    syncPresent := s.sync.present
    shock := s.shock.active
    voltage := s.bus.voltage
    derate := s.bus.derate
    dropped := s.link.dropped
    reportsLost := s.link.reportsLost
    axes := allAxes.map s.axisStatus }

/-- READ_STATUS reports, and then clears the dropped-request count and the reports-lost flag (R158, R159). -/
def ownReadStatus (_ : List Byte) (s : State) : Answer :=
  ⟨.ok, .deviceStatus s.deviceStatus, { s with link := { s.link with dropped := 0, reportsLost := false } }⟩

/-- What READ_AXIS reports (R160). -/
def State.axisDetail (s : State) (a : Axis) : AxisDetail :=
  let x := s.axis a
  { axis := a
    cfg := x.cfg
    hold := x.hold
    move := x.move
    stagedFlag := x.staged.isSome
    marks := x.marks
    faults := x.faults
    integ := x.loop.integ
    uPrev := x.loop.uPrev
    thetaS := x.gen.theta
    rem := x.gen.rem
    omegaS := x.gen.omega
    thetaM := s.reportedAngle a }

def ownReadAxis (p : List Byte) (s : State) : Answer :=
  match fourOfByte (byteAt p 0) with
  | none => refuse s .badArg
  | some a => ⟨.ok, .axisDetail (s.axisDetail a), s⟩

def ownIdentify (_ : List Byte) (s : State) : Answer := ⟨.ok, .identity, s⟩

end Sys2Proof.Machine
end

