-- ==== Sys2Proof/Machine/Device.lean ====
section
/-! DEFINITION. The device-wide operations: resets, the end of a transmission, staleness, bus samples, the stop line,
frame sync, telemetry, current samples and the expiries of the timers (chapters 1, 2, 6, 8, 9 and 10). -/

namespace Sys2Proof.Machine

/-! ### Resets (R20, R41, R118, R138, R155) -/

/-- An encoder input after a power-on reset: its phase lines stand where they stood (R41). -/
def Encoder.poweredOn (e : Encoder) : Encoder := .reset e.phaseA e.phaseB

/-- The device after a power-on reset, with the levels of STOP_N and FSYNC sampled at its end (R20, R114, R135).  The
commands that wait outside the device and the model's count of free choices stand (log entry 37). -/
def State.powerOn (s : State) (stopLow fsyncHigh : Bool) : State :=
  { State.reset with
    stopLine := .reset stopLow
    sync := .reset fsyncHigh
    encoders := s.encoders.map Encoder.poweredOn
    freeCount := s.freeCount
    pending := s.pending }

/-- The bias validity after a soft reset (R41). -/
def BiasUnit.validityKept (b : BiasUnit) : Validity :=
  match b.activity with
  | some .long => b.prior.getD b.validity
  | _ =>
    match b.validity with
    | .settling => .valid
    | v => v

/-- The bias unit after a soft reset (R41): a LONG capture in progress is abandoned with its prior validity restored;
a prior validity of SETTLING cannot be, since R34 refuses a LONG capture in SETTLING. -/
def BiasUnit.softReset (b : BiasUnit) : BiasUnit :=
  { bias := b.bias, validity := b.validityKept, prior := none, activity := none, sums := ⟨0, 0, 0⟩, count := 0
    settle := none }

/-- An encoder input after a soft reset: count and homed flag kept, capture disarmed, hold stopped (R41). -/
def Encoder.softReset (e : Encoder) : Encoder := { e with armed := false, hold := none }

/-- An axis after a soft reset: its drive goes OPEN at once (R107, R118), and the dead times of its legs and its place
in the PWM period, which runs on, are kept. -/
def AxisState.softReset (x : AxisState) (now : Int) : AxisState :=
  { AxisState.reset with
    drive :=
      { AxisState.reset.drive with
        guardA := (x.drive.placeAtOnce .open now).guardA
        guardB := (x.drive.placeAtOnce .open now).guardB
        boundaryDue := x.drive.boundaryDue } }

/-- A soft reset (R154): every block takes its soft-reset values.  The levels sampled are the filtered levels held (log
entry 25). -/
def State.softReset (s : State) : State :=
  { settings := .default
    axes := s.axes.map fun x => x.softReset (s.pwmNow x.drive)
    groups := []
    headPort := .reset
    vehiclePort := .reset
    head := .reset
    vehicle := .reset
    bias := s.bias.softReset
    shock := { active := false, windowEnd := 0 }
    encoders := s.encoders.map Encoder.softReset
    reactions := .default
    owed := []
    bus := .reset
    stopLine := .reset s.stopLine.asserted
    time := 0
    sync := .reset s.sync.level
    pwmPhase := s.pwmPhase
    link := .reset
    freeCount := s.freeCount
    pending := s.pending }

/-! ### The transmitter (R152, R154) -/

/-- The frame being sent is the reply to the RESET whose reset is pending (R154). -/
def Link.sendsResetReply (l : Link) : Bool :=
  l.resetPending &&
    match l.tx with
    | some ⟨.reply r, _⟩ => r.type == 0x2F && r.status == Status.ok
    | _ => false

/-- The transmitter becomes idle. -/
def State.clearTx (s : State) : State := { s with link := { s.link with tx := none } }

/-- The end of the last character of the frame being sent (R152, R154); with none being sent nothing happens. -/
def State.transmitEnd (s : State) : State :=
  if s.link.tx.isNone then s
  else if s.link.sendsResetReply then s.softReset
  else s.clearTx.startTransmit

/-! ### Staleness and the timers of the Measurement Unit (R24, R25, R27, R38, R39) -/

/-- An INERTIAL axis in a powered state. -/
def AxisState.inertialPowered (x : AxisState) : Bool := x.cfg.kind == .inertial && x.life.powered

/-- The head sample becomes stale (R24). -/
def State.headGone (s : State) (order : List Axis) : State :=
  if s.head.stale then s
  else
    (({ s with head := { s.head with stale := true } }.raiseEach order .sensorStall
        AxisState.inertialPowered).abortCapture .headStale).startTransmit

/-- The vehicle sample becomes stale (R25). -/
def State.vehicleGone (s : State) : State :=
  if s.vehicle.stale then s
  else ({ s with vehicle := { s.vehicle with stale := true } }.queueEvent .vehicleLost).startTransmit

/-- The settle timer expires (R38). -/
def State.settled (s : State) : State :=
  if s.bias.settle.isNone then s else { s with bias := { s.bias with validity := .valid, settle := none } }

/-- The shock window end is reached (R39). -/
def State.shockOver (s : State) : State := { s with shock := { s.shock with active := false } }

/-- The illegal-transition hold of an input expires: the ENCODER_FAULT condition of its mapped axis ends (R27,
R126). -/
def State.holdOver (s : State) (i : Input) : State :=
  if (s.encoders.get i).hold.isNone then s
  else
    let s1 := s.modEncoder i fun e => { e with hold := none }
    match s.mappedAxis i with
    | none => s1
    | some a => s1.modAxis a fun x => x.setCondition .encoderFault false

/-! ### The Bus Monitor (R111 to R113) -/

/-- D_bus from a bus voltage and the stored thresholds (R112). -/
def busDerate (x : Settings) (v : Int) : Int :=
  if x.vDerate ≤ v then 1000
  else if x.vCut < v then floorDiv (1000 * (v - x.vCut)) (x.vDerate - x.vCut)
  else 0

/-- Steps 1 and 2 of a sample, and what it finds of the two conditions (R111 to R113). -/
def State.storeBus (s : State) (v : Int) : State :=
  { s with
    bus :=
      { voltage := v
        derate := busDerate s.settings v
        sampled := true
        undervolt := decide (v ≤ s.settings.vCut)
        overvolt := decide (s.settings.vOver < v)
        timer := some ⟨s.time, 1000⟩ } }

/-- The effect of one bus condition on the fault sets (R113). -/
def State.busCondition (s : State) (k : FaultKind) (present : Bool) (order : List Axis) : State :=
  if present then s.raiseEach order k fun x => x.life.configured && !hasPresent x.faults k else s.endCondition k

/-- A sample of the motor bus (R111). -/
def State.sampleBus (s : State) (reading : Int) (order : List Axis) : State :=
  let v := clamp reading 0 1000
  ((s.storeBus v).busCondition .busUndervolt (decide (v ≤ s.settings.vCut)) order).busCondition .busOvervolt
    (decide (s.settings.vOver < v)) order

/-! ### The stop line (R114 to R117) -/

/-- A drive test running on any axis is aborted, in ascending order (R114). -/
def State.abortTests (s : State) : State := overAxes allAxes State.abortTest s

/-- The drive of every axis in a powered state goes SHORT at once (R115). -/
def State.shortPowered (s : State) : State :=
  overAxes allAxes (fun s a => if (s.axis a).life.powered then s.placeDrive a .short else s) s

/-- RUN is requested for every axis in a powered state (R116). -/
def State.runPowered (s : State) : State :=
  overAxes allAxes (fun s a => if (s.axis a).life.powered then s.requestDrive a .run else s) s

/-- What an assertion in a mode does after the tests it aborts (R115, R117). -/
def State.assertMode (s : State) (m : StopMode) (order : List Axis) : State :=
  match m with
  | .pause =>
    { s with stopLine := { s.stopLine with pause := true } }.shortPowered.queueEvent (.stopLine true)
  | .latch => s.raiseEach order .stopLine fun x => x.life.configured

/-- The filtered line level, with the mode of the assertion in force. -/
def State.setLine (s : State) (asserted : Bool) (m : Option StopMode) : State :=
  { s with stopLine := { s.stopLine with asserted := asserted, mode := m } }

/-- A filtered assertion of STOP_N (R114, R115, R117); with the line asserted already no level changes.
The tests are aborted first (log entry 24). -/
def State.assertStop (s : State) (order : List Axis) : State :=
  if s.stopLine.asserted then s
  else
    ((s.setLine true (some s.settings.stopMode)).abortTests.assertMode s.settings.stopMode order).startTransmit

/-- What a release does by the mode of the assertion it ends (R116, R117). -/
def State.releaseMode (s : State) (m : Option StopMode) : State :=
  match m with
  | some .pause =>
    { s with stopLine := { s.stopLine with pause := false } }.runPowered.queueEvent (.stopLine false)
  | some .latch => s.endCondition .stopLine
  | none => s

/-- A filtered release of STOP_N (R114, R116, R117); with the line released already no level changes. -/
def State.releaseStop (s : State) : State :=
  if s.stopLine.asserted then ((s.setLine false none).releaseMode s.stopLine.mode).startTransmit else s

/-! ### Frame sync (R135 to R137) -/

/-- The edge selection admits a taken change to a level (R135). -/
def EdgeSelection.admits (e : EdgeSelection) (level : Bool) : Bool :=
  match e with
  | .off => false
  | .rising => level
  | .falling => !level
  | .both => true

/-- Steps 1 to 3 of a counted edge (R136). -/
def State.stampEdge (s : State) : State :=
  { s with
    sync := { s.sync with frame := s.sync.frame + 1, lastEdge := some s.time, lossTimer := some (s.startMs 100) } }

/-- Step 4 of a counted edge (R136). -/
def State.restoreSync (s : State) : State :=
  if s.sync.present then s
  else { s with sync := { s.sync with present := true } }.queueEvent (.syncRestored s.sync.frame)

/-- The filtered FSYNC takes a level: an edge, counted or not (R135, R136). -/
def State.takeSyncLevel (s : State) (level : Bool) : State :=
  if s.sync.level = level then s
  else
    let s1 : State := { s with sync := { s.sync with level := level } }
    if s.settings.edge.admits level then s1.stampEdge.restoreSync.countEdge.startTransmit else s1

/-- The sync loss timer expires (R137). -/
def State.loseSync (s : State) : State :=
  if s.sync.lossTimer.isNone then s
  else
    (({ s with sync := { s.sync with present := false, lossTimer := none } }.queueEvent
        (.syncLost s.sync.frame s.sync.lastEdge)).syncLossStarts).startTransmit

/-! ### Telemetry (R163) -/

/-- The per-axis entry of a TELEMETRY report (R163). -/
def State.telemetryEntry (s : State) (a : Axis) : TelemetryEntry :=
  let x := s.axis a
  { life := x.life
    thetaS := x.gen.theta
    thetaM := s.reportedAngle a
    omegaM := if x.life.powered then x.meas.omega else 0
    uOut := if x.life.powered then x.loop.uOut else 0
    current := x.drive.lastCurrent
    saturated := x.life.powered && x.loop.saturated
    paused := x.life.powered && x.loop.paused
    moveSet := x.life.powered && x.loop.moveSet
    limitStop := x.life.configured && x.gen.latch.isSome
    activeTag := x.activeTag
    depth := x.depth }

/-- The TELEMETRY report of the state that stands (R163). -/
def State.telemetryReport (s : State) : Report :=
  .telemetry s.time s.sync.frame s.shock.active s.stopLine.asserted s.bus.voltage s.link.telemetryMask
    ((maskAxes s.link.telemetryMask).map s.telemetryEntry)

/-- The telemetry interval expires (R163). -/
def State.telemetryExpiry (s : State) : State :=
  if s.link.telemetryTimer.isNone then s
  else
    let s1 := s.queueReport s.telemetryReport
    { s1 with link := { s1.link with telemetryTimer := s.telemetryStart s.link.telemetryCode } }.startTransmit

/-! ### The Drive Stage's events (R106, R108, R109) -/

/-- A period boundary of one axis (R104, R106). -/
def State.boundaryOf (s : State) (a : Axis) : State := s.modAxis a fun x => x.boundary (s.pausedAxis a)

/-- A sample as read: magnitudes beyond 32,767 mA are read as ±32,767 (R108). -/
def readCurrent (reading : Int) : Int := clamp reading (-32767) 32767

/-- The sample becomes the last current sample (R108). -/
def State.storeCurrent (s : State) (a : Axis) (i : Int) : State :=
  s.modAxis a fun x => x.modDrive fun d => { d with lastCurrent := i, centreDue := false }

/-- A drive test with one more sample (R18). -/
def DriveTest.sample (t : DriveTest) (i : Int) : DriveTest :=
  if t.running then
    { t with peak := max t.peak (magnitude i).toNat, sum := t.sum + (magnitude i).toNat, count := t.count + 1 }
  else t

/-- A sample beyond the trip places the drive OPEN and raises OVERCURRENT (R109). -/
def State.tripTest (s : State) (a : Axis) (i : Int) : State :=
  if (s.axis a).cfg.trip < magnitude i then (s.placeDrive a .open).raise a .overcurrent else s

/-- A period centre of one axis: in RUN a sample is taken, compared with the trip, and offered to a running drive
test, in this order (log entry 19); out of RUN none is taken (R108, R109). -/
def State.sampleCurrent (s : State) (a : Axis) (reading : Int) : State :=
  if (s.axis a).drive.state = .run then
    ((((s.storeCurrent a (readCurrent reading)).tripTest a (readCurrent reading)).modAxis a fun x =>
        { x with test := x.test.sample (readCurrent reading) })).startTransmit
  else s.modAxis a fun x => x.modDrive fun d => { d with centreDue := false }

/-! ### Expiries of the axes and of the link (R10, R14, R19, R64, R144, R153; log entry 14) -/

/-- The arming timer of an axis expires, in ARMING (R10). -/
def State.armingOver (s : State) (a : Axis) : State :=
  if (s.axis a).life = .arming then (s.armingExpiry a).startTransmit else s

/-- The engage timer of an axis expires, in STOPPING(DISARM, ENGAGE) (R14). -/
def State.engageOver (s : State) (a : Axis) : State :=
  if (s.axis a).life = .stopping .disarm .engage then (s.engageExpiry a).startTransmit else s

/-- The end time of a running drive test is reached (R19). -/
def State.testOver (s : State) (a : Axis) : State :=
  if (s.axis a).test.running then (s.endTest a).startTransmit else s

/-- The stream timer of an axis expires (R64). -/
def State.streamOver (s : State) (a : Axis) : State :=
  if (s.axis a).stream.timer.isNone then s else (s.streamExpiry a).startTransmit

/-- The link silence timer expires (R153). -/
def State.linkSilent (s : State) (order : List Axis) : State :=
  if s.link.silence.isNone then s
  else { s with link := { s.link with silence := none } }.raiseEach order .linkSilence fun x => x.life.configured

/-- The 2 ms gap of the frame in progress expires; in HUNT no gap runs (R144). -/
def State.linkGap (s : State) : State := if s.link.framer.state = .hunt then s else s.abandonFrame

end Sys2Proof.Machine
end

