-- ==== Sys2Proof/Machine/AxisRows.lean ====
section
/-! DEFINITION. The rows of one axis: its update, raises, and the expiries of its timers (chapters 1, 3, 4, 5 and 7). -/

namespace Sys2Proof.Machine

/-- AXIS_UPDATE: the periodic update of an axis (R68, R69). -/
def execAxisUpdate (axis : Axis) (s : State) : Host.Outcome State Fault Refusal :=
  .next (s.axisUpdate axis).startTransmit

/-- FAULT_RAISE: a raise of a kind on an axis, one that waits or one from outside (R119; log entries 9 and 29). -/
def execFaultRaise (axis : Axis) (kind : FaultKind) (s : State) : Host.Outcome State Fault Refusal :=
  .next (s.faultRaise axis kind)

/-- ARMING_TIMER_EXPIRY: the axis becomes TRACKING (R10). -/
def execArmingTimerExpiry (axis : Axis) (s : State) : Host.Outcome State Fault Refusal :=
  .next (s.armingOver axis)

/-- ENGAGE_TIMER_EXPIRY: the axis becomes IDLE (R14). -/
def execEngageTimerExpiry (axis : Axis) (s : State) : Host.Outcome State Fault Refusal :=
  .next (s.engageOver axis)

/-- DRIVE_TEST_END: a drive test ends at its end time (R19). -/
def execDriveTestEnd (axis : Axis) (s : State) : Host.Outcome State Fault Refusal :=
  .next (s.testOver axis)

/-- STREAM_LAPSE: the stream timer of an axis expires (R64). -/
def execStreamLapse (axis : Axis) (s : State) : Host.Outcome State Fault Refusal :=
  .next (s.streamOver axis)

end Sys2Proof.Machine
end

