-- ==== Sys2Proof/Machine/DeviceRows.lean ====
section
/-! DEFINITION. The rows of the device-wide blocks: reset, frame sync, telemetry, bus, drive stages and stop line
(chapters 1, 6, 8 and 10). -/

namespace Sys2Proof.Machine

/-- POWER_ON_RESET: every block takes its power-on reset values (R20). -/
def execPowerOnReset (stopLow fsyncHigh : Bool) (s : State) : Host.Outcome State Fault Refusal :=
  .next (s.powerOn stopLow fsyncHigh)

/-- FRAME_SYNC_EDGE: the filtered FSYNC takes a level (R135, R136). -/
def execFrameSyncEdge (level : Bool) (s : State) : Host.Outcome State Fault Refusal :=
  .next (s.takeSyncLevel level)

/-- SYNC_LOST: the sync loss timer expires (R137). -/
def execSyncLost (s : State) : Host.Outcome State Fault Refusal :=
  .next s.loseSync

/-- TELEMETRY: the telemetry interval expires (R163). -/
def execTelemetry (s : State) : Host.Outcome State Fault Refusal :=
  .next s.telemetryExpiry

/-- BUS_SAMPLE: the 1 ms sample of the motor bus (R111). -/
def execBusSample (reading : Int) (order : List Axis) (s : State) : Host.Outcome State Fault Refusal :=
  .next (s.sampleBus reading order)

/-- PWM_BOUNDARY: a period boundary of one Drive Stage (R104, R106). -/
def execPwmBoundary (axis : Axis) (s : State) : Host.Outcome State Fault Refusal :=
  .next (s.boundaryOf axis)

/-- CURRENT_SAMPLE: a period centre of one Drive Stage (R108). -/
def execCurrentSample (axis : Axis) (reading : Int) (s : State) : Host.Outcome State Fault Refusal :=
  .next (s.sampleCurrent axis reading)

/-- STOP_LINE_ASSERTION: a filtered assertion of STOP_N (R115, R117). -/
def execStopLineAssertion (order : List Axis) (s : State) : Host.Outcome State Fault Refusal :=
  .next (s.assertStop order)

/-- STOP_LINE_RELEASE: a filtered release of STOP_N (R116, R117). -/
def execStopLineRelease (s : State) : Host.Outcome State Fault Refusal :=
  .next s.releaseStop

end Sys2Proof.Machine
end

