-- ==== Sys2Proof/Machine/LinkRows.lean ====
section
/-! DEFINITION. The rows of the Control Link but for its requests: characters, gaps, the end of a transmission and the
link silence (chapter 9). -/

namespace Sys2Proof.Machine

/-- LINK_FRAME_COMPLETE: the framer takes the second CRC byte of a frame, and the frame is judged and acts
(R144 to R147; log entry 26). -/
def execLinkFrameComplete (c : Byte) (s : State) : Host.Outcome State Fault Refusal :=
  .next (s.takeLinkCharacter c).startTransmit

/-- LINK_FRAME_GAP: the frame in progress is abandoned (R144). -/
def execLinkFrameGap (s : State) : Host.Outcome State Fault Refusal :=
  .next s.linkGap

/-- LINK_FRAMING_ERROR: the character is discarded with any frame in progress (R144). -/
def execLinkFramingError (s : State) : Host.Outcome State Fault Refusal :=
  .next s.abandonFrame

/-- TRANSMIT_COMPLETE: the frame being sent ends; the next one is taken, or the soft reset of a RESET takes effect
(R152, R154). -/
def execTransmitComplete (s : State) : Host.Outcome State Fault Refusal :=
  .next s.transmitEnd

/-- LINK_SILENCE: the link silence timer expires (R153; log entry 14). -/
def execLinkSilence (order : List Axis) (s : State) : Host.Outcome State Fault Refusal :=
  .next (s.linkSilent order)

/-- LINK_CHARACTER: the framer takes a character (R144). -/
def execLinkCharacter (c : Byte) (s : State) : Host.Outcome State Fault Refusal :=
  .next (s.takeLinkCharacter c).startTransmit

end Sys2Proof.Machine
end

