-- ==== Sys2Proof/Machine/MeasurementRows.lean ====
section
/-! DEFINITION. The rows of the Measurement Unit: sensor ports, staleness, settling, shock and the encoder inputs
(chapter 2). -/

namespace Sys2Proof.Machine

/-- HEAD_SAMPLE_FRAME: the head port takes the last character of a frame, which is judged and accepted (R21, R22). -/
def execHeadSampleFrame (c : Byte) (s : State) : Host.Outcome State Fault Refusal :=
  .next (s.takeSensorCharacter .head c).startTransmit

/-- VEHICLE_SAMPLE_FRAME: the vehicle port takes the last character of a frame, which is judged and accepted (R21,
R23). -/
def execVehicleSampleFrame (c : Byte) (s : State) : Host.Outcome State Fault Refusal :=
  .next (s.takeSensorCharacter .vehicle c).startTransmit

/-- SENSOR_FRAME_GAP: the partial frame of a port is abandoned (R21). -/
def execSensorFrameGap (port : SensorPort) (s : State) : Host.Outcome State Fault Refusal :=
  .next (s.abandonPort port)

/-- HEAD_STALE: the head sample becomes stale (R24). -/
def execHeadStale (order : List Axis) (s : State) : Host.Outcome State Fault Refusal :=
  .next (s.headGone order)

/-- VEHICLE_LOST: the vehicle sample becomes stale (R25). -/
def execVehicleLost (s : State) : Host.Outcome State Fault Refusal :=
  .next s.vehicleGone

/-- SETTLE_TIMER_EXPIRY: bias validity becomes VALID (R38). -/
def execSettleTimerExpiry (s : State) : Host.Outcome State Fault Refusal :=
  .next s.settled

/-- SHOCK_WINDOW_END: the shock becomes inactive (R39). -/
def execShockWindowEnd (s : State) : Host.Outcome State Fault Refusal :=
  .next s.shockOver

/-- ENCODER_TRANSITION: the two phases of an input take levels (R26). -/
def execEncoderTransition (input : Input) (a b : Bool) (s : State) : Host.Outcome State Fault Refusal :=
  .next (s.phaseSample input a b).startTransmit

/-- ILLEGAL_TRANSITION: both phases of an input differ from the previous sample (R27; log entry 27). -/
def execIllegalTransition (input : Input) (s : State) : Host.Outcome State Fault Refusal :=
  .next (s.phaseSample input (!(s.encoders.get input).phaseA) (!(s.encoders.get input).phaseB)).startTransmit

/-- ILLEGAL_HOLD_EXPIRY: the illegal-transition hold of an input expires (R27). -/
def execIllegalHoldExpiry (input : Input) (s : State) : Host.Outcome State Fault Refusal :=
  .next (s.holdOver input)

/-- INDEX_EDGE: a rising edge of the index line of an input (R29). -/
def execIndexEdge (input : Input) (s : State) : Host.Outcome State Fault Refusal :=
  .next (s.indexReload input)

/-- SENSOR_CHARACTER: a sensor port takes a character (R21). -/
def execSensorCharacter (port : SensorPort) (c : Byte) (s : State) : Host.Outcome State Fault Refusal :=
  .next (s.takeSensorCharacter port c).startTransmit

/-- SENSOR_FRAMING_ERROR: the character is discarded with any frame being assembled (R21). -/
def execSensorFramingError (port : SensorPort) (s : State) : Host.Outcome State Fault Refusal :=
  .next (s.abandonPort port)

end Sys2Proof.Machine
end

