-- ==== Sys2Proof/Machine/RequestRows.lean ====
section
/-! DEFINITION. The rows that are requests of the host: each is the processing event of a request of its TYPE (R148), which
its owner judges and acts on.  The whole event waits, and nothing changes, where the request cannot be processed. -/

namespace Sys2Proof.Machine

/-- UNKNOWN_TYPE: the processing of a request whose TYPE the device does not know (R148).  A TYPE that it does know, and
the stream message, make no such event: nothing changes (log entry 28). -/
def execUnknownType (type : Byte) (tag : Tag) (payload : List Byte) (s : State) : Host.Outcome State Fault Refusal :=
  .next
    (if (requestLength type).isNone && type != 0x40 then s.process ⟨type, tag, payload⟩ fun _ s => refuse s .unknownType
    else s)

/-- IDENTIFY (R161). -/
def execIdentify (tag : Tag) (payload : List Byte) (s : State) : Host.Outcome State Fault Refusal :=
  .next (s.process ⟨0x01, tag, payload⟩ ownIdentify)

/-- READ_STATUS (R158, R159). -/
def execReadStatus (tag : Tag) (payload : List Byte) (s : State) : Host.Outcome State Fault Refusal :=
  .next (s.process ⟨0x02, tag, payload⟩ ownReadStatus)

/-- READ_AXIS (R160). -/
def execReadAxis (tag : Tag) (payload : List Byte) (s : State) : Host.Outcome State Fault Refusal :=
  .next (s.process ⟨0x03, tag, payload⟩ ownReadAxis)

/-- SET_DEVICE (R1). -/
def execSetDevice (tag : Tag) (payload : List Byte) (s : State) : Host.Outcome State Fault Refusal :=
  .next (s.process ⟨0x10, tag, payload⟩ ownSetDevice)

/-- CONFIGURE_AXIS (R3 to R5). -/
def execConfigureAxis (tag : Tag) (payload : List Byte) (s : State) : Host.Outcome State Fault Refusal :=
  .next (s.process ⟨0x11, tag, payload⟩ ownConfigureAxis)

/-- SET_GAINS (R6). -/
def execSetGains (tag : Tag) (payload : List Byte) (s : State) : Host.Outcome State Fault Refusal :=
  .next (s.process ⟨0x12, tag, payload⟩ ownSetGains)

/-- SET_REACTION (R122). -/
def execSetReaction (tag : Tag) (payload : List Byte) (s : State) : Host.Outcome State Fault Refusal :=
  .next (s.process ⟨0x13, tag, payload⟩ ownSetReaction)

/-- SET_MARK (R139). -/
def execSetMark (tag : Tag) (payload : List Byte) (s : State) : Host.Outcome State Fault Refusal :=
  .next (s.process ⟨0x14, tag, payload⟩ ownSetMark)

/-- SET_TELEMETRY (R162). -/
def execSetTelemetry (tag : Tag) (payload : List Byte) (s : State) : Host.Outcome State Fault Refusal :=
  .next (s.process ⟨0x15, tag, payload⟩ ownSetTelemetry)

/-- ARM (R8, R9). -/
def execArm (tag : Tag) (payload : List Byte) (s : State) : Host.Outcome State Fault Refusal :=
  .next (s.process ⟨0x20, tag, payload⟩ ownArm)

/-- DISARM (R12). -/
def execDisarm (tag : Tag) (payload : List Byte) (s : State) : Host.Outcome State Fault Refusal :=
  .next (s.process ⟨0x21, tag, payload⟩ ownDisarm)

/-- STOP (R11). -/
def execStop (tag : Tag) (payload : List Byte) (s : State) : Host.Outcome State Fault Refusal :=
  .next (s.process ⟨0x22, tag, payload⟩ ownStop)

/-- CLEAR_FAULTS (R129, R130). -/
def execClearFaults (tag : Tag) (payload : List Byte) (s : State) : Host.Outcome State Fault Refusal :=
  .next (s.process ⟨0x23, tag, payload⟩ ownClearFaults)

/-- BIAS_CAPTURE (R34, R35). -/
def execBiasCapture (tag : Tag) (payload : List Byte) (s : State) : Host.Outcome State Fault Refusal :=
  .next (s.process ⟨0x24, tag, payload⟩ ownBiasCapture)

/-- DRIVE_TEST (R18). -/
def execDriveTest (tag : Tag) (payload : List Byte) (s : State) : Host.Outcome State Fault Refusal :=
  .next (s.process ⟨0x25, tag, payload⟩ ownDriveTest)

/-- RESET (R154). -/
def execReset (tag : Tag) (payload : List Byte) (s : State) : Host.Outcome State Fault Refusal :=
  .next (s.process ⟨0x2F, tag, payload⟩ ownReset)

/-- QUEUE_SEGMENT (R44 to R47). -/
def execQueueSegment (tag : Tag) (payload : List Byte) (s : State) : Host.Outcome State Fault Refusal :=
  .next (s.process ⟨0x30, tag, payload⟩ ownQueueSegment)

/-- FLUSH (R61). -/
def execFlush (tag : Tag) (payload : List Byte) (s : State) : Host.Outcome State Fault Refusal :=
  .next (s.process ⟨0x31, tag, payload⟩ ownFlush)

end Sys2Proof.Machine
end

