-- ==== Sys2Proof/Machine/Dispatch.lean ====
section
/-! DEFINITION. The effect of every command on the state, one arm per row of the table. -/

namespace Sys2Proof.Machine

def exec (i : Instr) (s : State) : Host.Outcome State Fault Refusal :=
  match i with
  | .powerOnReset stopLow fsyncHigh => Sys2Proof.Machine.execPowerOnReset stopLow fsyncHigh s
  | .linkFrameComplete c => Sys2Proof.Machine.execLinkFrameComplete c s
  | .linkFrameGap => Sys2Proof.Machine.execLinkFrameGap s
  | .linkFramingError => Sys2Proof.Machine.execLinkFramingError s
  | .unknownType type tag payload => Sys2Proof.Machine.execUnknownType type tag payload s
  | .identify tag payload => Sys2Proof.Machine.execIdentify tag payload s
  | .readStatus tag payload => Sys2Proof.Machine.execReadStatus tag payload s
  | .readAxis tag payload => Sys2Proof.Machine.execReadAxis tag payload s
  | .setDevice tag payload => Sys2Proof.Machine.execSetDevice tag payload s
  | .configureAxis tag payload => Sys2Proof.Machine.execConfigureAxis tag payload s
  | .setGains tag payload => Sys2Proof.Machine.execSetGains tag payload s
  | .setReaction tag payload => Sys2Proof.Machine.execSetReaction tag payload s
  | .setMark tag payload => Sys2Proof.Machine.execSetMark tag payload s
  | .setTelemetry tag payload => Sys2Proof.Machine.execSetTelemetry tag payload s
  | .arm tag payload => Sys2Proof.Machine.execArm tag payload s
  | .disarm tag payload => Sys2Proof.Machine.execDisarm tag payload s
  | .stop tag payload => Sys2Proof.Machine.execStop tag payload s
  | .clearFaults tag payload => Sys2Proof.Machine.execClearFaults tag payload s
  | .biasCapture tag payload => Sys2Proof.Machine.execBiasCapture tag payload s
  | .driveTest tag payload => Sys2Proof.Machine.execDriveTest tag payload s
  | .reset tag payload => Sys2Proof.Machine.execReset tag payload s
  | .queueSegment tag payload => Sys2Proof.Machine.execQueueSegment tag payload s
  | .flush tag payload => Sys2Proof.Machine.execFlush tag payload s
  | .transmitComplete => Sys2Proof.Machine.execTransmitComplete s
  | .headSampleFrame c => Sys2Proof.Machine.execHeadSampleFrame c s
  | .vehicleSampleFrame c => Sys2Proof.Machine.execVehicleSampleFrame c s
  | .sensorFrameGap port => Sys2Proof.Machine.execSensorFrameGap port s
  | .headStale order => Sys2Proof.Machine.execHeadStale order s
  | .vehicleLost => Sys2Proof.Machine.execVehicleLost s
  | .settleTimerExpiry => Sys2Proof.Machine.execSettleTimerExpiry s
  | .shockWindowEnd => Sys2Proof.Machine.execShockWindowEnd s
  | .encoderTransition input a b => Sys2Proof.Machine.execEncoderTransition input a b s
  | .illegalTransition input => Sys2Proof.Machine.execIllegalTransition input s
  | .illegalHoldExpiry input => Sys2Proof.Machine.execIllegalHoldExpiry input s
  | .indexEdge input => Sys2Proof.Machine.execIndexEdge input s
  | .axisUpdate axis => Sys2Proof.Machine.execAxisUpdate axis s
  | .faultRaise axis kind => Sys2Proof.Machine.execFaultRaise axis kind s
  | .armingTimerExpiry axis => Sys2Proof.Machine.execArmingTimerExpiry axis s
  | .engageTimerExpiry axis => Sys2Proof.Machine.execEngageTimerExpiry axis s
  | .driveTestEnd axis => Sys2Proof.Machine.execDriveTestEnd axis s
  | .streamLapse axis => Sys2Proof.Machine.execStreamLapse axis s
  | .linkSilence order => Sys2Proof.Machine.execLinkSilence order s
  | .frameSyncEdge level => Sys2Proof.Machine.execFrameSyncEdge level s
  | .syncLost => Sys2Proof.Machine.execSyncLost s
  | .telemetry => Sys2Proof.Machine.execTelemetry s
  | .busSample reading order => Sys2Proof.Machine.execBusSample reading order s
  | .pwmBoundary axis => Sys2Proof.Machine.execPwmBoundary axis s
  | .currentSample axis reading => Sys2Proof.Machine.execCurrentSample axis reading s
  | .stopLineAssertion order => Sys2Proof.Machine.execStopLineAssertion order s
  | .stopLineRelease => Sys2Proof.Machine.execStopLineRelease s
  | .linkCharacter c => Sys2Proof.Machine.execLinkCharacter c s
  | .sensorCharacter port c => Sys2Proof.Machine.execSensorCharacter port c s
  | .sensorFramingError port => Sys2Proof.Machine.execSensorFramingError port s

end Sys2Proof.Machine
end

