-- ==== Sys2Proof/Machine/Idle.lean ====
section
/-! DEFINITION. The device's own clock, for a step that finds no command waiting: the events that are due at the present
instant of the time base, and the tick to the next microsecond (R102, R133, R134; log entry 6). -/

namespace Sys2Proof.Machine

/-- The row a queued request is processed by (section 9.4, R148). -/
def commandOf (r : Request) : Instr :=
  match r.type.toNat with
  | 0x01 => .identify r.tag r.payload
  | 0x02 => .readStatus r.tag r.payload
  | 0x03 => .readAxis r.tag r.payload
  | 0x10 => .setDevice r.tag r.payload
  | 0x11 => .configureAxis r.tag r.payload
  | 0x12 => .setGains r.tag r.payload
  | 0x13 => .setReaction r.tag r.payload
  | 0x14 => .setMark r.tag r.payload
  | 0x15 => .setTelemetry r.tag r.payload
  | 0x20 => .arm r.tag r.payload
  | 0x21 => .disarm r.tag r.payload
  | 0x22 => .stop r.tag r.payload
  | 0x23 => .clearFaults r.tag r.payload
  | 0x24 => .biasCapture r.tag r.payload
  | 0x25 => .driveTest r.tag r.payload
  | 0x2F => .reset r.tag r.payload
  | 0x30 => .queueSegment r.tag r.payload
  | 0x31 => .flush r.tag r.payload
  | _ => .unknownType r.type r.tag r.payload

/-- A command, if a test holds. -/
def dueIf (b : Bool) (c : Instr) : List Instr := if b then [c] else []

/-- The requests that can be processed: the one at the head of the inbound queue (R148). -/
def State.dueRequests (s : State) : List Instr :=
  match s.link.inbound with
  | [] => []
  | r :: _ => dueIf (s.canProcess r) (commandOf r)

/-- The end of the frame being sent (R152). -/
def State.dueTransmit (s : State) : List Instr :=
  match s.link.tx with
  | none => []
  | some t => dueIf (elapsedReached s.time t.start t.frame.sendTime) .transmitComplete

/-- A sensor port assembles a frame whose last character is more than 50 µs ago (R21; log entry 21). -/
def State.portGap (s : State) (p : SensorPort) : Bool :=
  !(s.port p).bytes.isEmpty && elapsedReached s.time (s.port p).lastTime 51

/-- The events of the Control Link that are due. -/
def State.dueLink (s : State) : List Instr :=
  s.dueRequests ++ s.dueTransmit ++
    dueIf (s.link.framer.state != .hunt && elapsedReached s.time s.link.framer.lastTime 2000) .linkFrameGap ++
    dueIf (timerDue s.time s.link.silence) (.linkSilence (Config.freeOrder s.freeCount)) ++
    dueIf (timerDue s.time s.link.telemetryTimer) .telemetry

/-- The events of the Measurement Unit and of the frame sync that are due. -/
def State.dueSensors (s : State) : List Instr :=
  dueIf (s.portGap .head) (.sensorFrameGap .head) ++ dueIf (s.portGap .vehicle) (.sensorFrameGap .vehicle) ++
    dueIf (!s.head.stale && elapsedReached s.time s.head.arrival 2000) (.headStale (Config.freeOrder s.freeCount)) ++
    dueIf (!s.vehicle.stale && elapsedReached s.time s.vehicle.arrival 20000) .vehicleLost ++
    dueIf (timerDue s.time s.bias.settle) .settleTimerExpiry ++
    dueIf (s.shock.active && s.time == s.shock.windowEnd) .shockWindowEnd ++
    (allAxes.filter fun i => timerDue s.time (s.encoders.get i).hold).map .illegalHoldExpiry ++
    dueIf (timerDue s.time s.sync.lossTimer) .syncLost

/-- The events of the axes that are due: updates and expiries. -/
def State.dueAxes (s : State) : List Instr :=
  (s.axesWhere fun x => x.life.powered && timerDue s.time x.updateTimer).map .axisUpdate ++
    (s.axesWhere fun x => x.life == .arming && timerDue s.time x.armingTimer).map .armingTimerExpiry ++
    (s.axesWhere fun x => x.life == .stopping .disarm .engage && timerDue s.time x.engageTimer).map
      .engageTimerExpiry ++
    (s.axesWhere fun x => x.test.running && s.time == x.test.endTime).map .driveTestEnd ++
    (s.axesWhere fun x => timerDue s.time x.stream.timer).map .streamLapse

/-- The events of the Bus Monitor and of the Drive Stages that are due; the boundaries of one instant are taken in
ascending order, which is of no consequence (R102). -/
def State.dueDrive (s : State) : List Instr :=
  dueIf (timerDue s.time s.bus.timer)
      (.busSample (Config.freeBusReading s.freeCount) (Config.freeOrder s.freeCount)) ++
    ((s.axesWhere fun x => x.drive.boundaryDue).take 1).map .pwmBoundary ++
    (s.axesWhere fun x => x.drive.centreDue && x.drive.state == .run).map fun a =>
      .currentSample a (Config.freeCurrentReading s.freeCount)

/-- The raises that wait, each an event of the Fault Monitor (R119). -/
def State.dueRaises (s : State) : List Instr := s.owed.map fun r => .faultRaise r.1 r.2

/-- Every event that is due at the present instant. -/
def State.dueEvents (s : State) : List Instr := s.dueLink ++ s.dueSensors ++ s.dueAxes ++ s.dueDrive ++ s.dueRaises

/-- The boundary and the centre of the period that fall at the present instant (R102). -/
def AxisState.markPhase (x : AxisState) (phase : Nat) : AxisState :=
  x.modDrive fun d => { d with boundaryDue := phase == 0, centreDue := phase == 25 }

/-- One microsecond passes: the time base and the PWM period move on (R102, R133). -/
def State.tick (s : State) : State :=
  { s with time := s.time + 1, pwmPhase := (s.pwmPhase + 1) % 50 }.modAxes fun x =>
    x.markPhase ((s.pwmPhase + 1) % 50)

/-- One more free choice has been taken. -/
def State.countFree (s : State) : State := { s with freeCount := s.freeCount + 1 }

/-- The event taken next among those due: the only one, or a free one of several (log entry 6). -/
def pickDue (n : Nat) (c : Instr) (rest : List Instr) : Instr :=
  match rest with
  | [] => c
  | _ => (c :: rest).getD (Config.freeChoice n % (rest.length + 1)) c

/-- What a step does with no command waiting: one due event is taken, and with none due a microsecond passes. -/
def State.idleWith (run : Instr → State → Host.Outcome State Fault Refusal) (s : State) :
    Host.Outcome State Fault Refusal :=
  match s.dueEvents with
  | [] => .next s.tick
  | c :: rest => run (pickDue s.freeCount c rest) s.countFree

end Sys2Proof.Machine
end

