-- ==== Sys2Proof/Laws/State.lean ====
section
/-! SUPPORT. The small lemmas of the state: one per field per update of the shared operations, so that no later proof
unfolds a record update. -/

namespace Sys2Proof

/-! ### Groups of four -/

@[simp] theorem Four.get_set_same {α : Type} (v : Four α) (i : Fin 4) (x : α) : (v.set i x).get i = x := by
  fin_cases i <;> rfl

@[simp] theorem Four.get_set_ne {α : Type} (v : Four α) (i j : Fin 4) (x : α) (h : j ≠ i) :
    (v.set i x).get j = v.get j := by
  fin_cases i <;> fin_cases j <;> first | rfl | exact absurd rfl h

theorem Four.get_set {α : Type} (v : Four α) (i j : Fin 4) (x : α) :
    (v.set i x).get j = if j = i then x else v.get j := by
  by_cases h : j = i
  · subst h; simp
  · simp [h]

@[simp] theorem Four.get_map {α β : Type} (f : α → β) (v : Four α) (i : Fin 4) : (v.map f).get i = f (v.get i) := by
  fin_cases i <;> rfl

@[simp] theorem Four.get_fill {α : Type} (x : α) (i : Fin 4) : (Four.fill x).get i = x := by
  fin_cases i <;> rfl

/-- Two groups with equal entries are equal. -/
theorem Four.ext_get {α : Type} {v w : Four α} (h : ∀ i, v.get i = w.get i) : v = w := by
  obtain ⟨a, b, c, d⟩ := v
  obtain ⟨e, f, g, k⟩ := w
  have h0 := h 0
  have h1 := h 1
  have h2 := h 2
  have h3 := h 3
  simp only [Four.get] at h0 h1 h2 h3
  subst h0 h1 h2 h3
  rfl

@[simp] theorem Four.map_map {α β γ : Type} (g : β → γ) (f : α → β) (v : Four α) :
    (v.map f).map g = v.map (g ∘ f) := rfl

@[simp] theorem Four.map_set {α β : Type} (f : α → β) (v : Four α) (i : Fin 4) (x : α) :
    (v.set i x).map f = (v.map f).set i (f x) := by
  fin_cases i <;> rfl

@[simp] theorem Four.set_get_self {α : Type} (v : Four α) (i : Fin 4) : v.set i (v.get i) = v := by
  fin_cases i <;> rfl

namespace Machine

/-! ### One axis, one input -/

@[simp] theorem State.axis_modAxis_same (s : State) (a : Axis) (f : AxisState → AxisState) :
    (s.modAxis a f).axis a = f (s.axis a) := by
  simp [State.axis, State.modAxis]

@[simp] theorem State.axis_modAxis_ne (s : State) (a b : Axis) (f : AxisState → AxisState) (h : b ≠ a) :
    (s.modAxis a f).axis b = s.axis b := by
  simp [State.axis, State.modAxis, h]

theorem State.axis_modAxis (s : State) (a b : Axis) (f : AxisState → AxisState) :
    (s.modAxis a f).axis b = if b = a then f (s.axis b) else s.axis b := by
  by_cases h : b = a
  · subst h; simp
  · simp [h]

@[simp] theorem State.axis_modAxes (s : State) (f : AxisState → AxisState) (a : Axis) :
    (s.modAxes f).axis a = f (s.axis a) := by
  simp [State.axis, State.modAxes]

theorem State.encoder_modEncoder (s : State) (i j : Input) (f : Encoder → Encoder) :
    (s.modEncoder i f).encoders.get j = if j = i then f (s.encoders.get j) else s.encoders.get j := by
  by_cases h : j = i
  · subst h; simp [State.modEncoder]
  · simp [State.modEncoder, h]

@[simp] theorem State.axis_modEncoder (s : State) (i : Input) (f : Encoder → Encoder) (a : Axis) :
    (s.modEncoder i f).axis a = s.axis a := rfl

@[simp] theorem State.axis_queueReport (s : State) (r : Report) (a : Axis) : (s.queueReport r).axis a = s.axis a := rfl

@[simp] theorem State.axis_queueEvent (s : State) (k : EventKind) (a : Axis) : (s.queueEvent k).axis a = s.axis a := rfl

section

variable (s : State) (a : Axis) (i : Input) (f : AxisState → AxisState) (g : Encoder → Encoder) (r : Report)
  (k : EventKind)

/-! ### What `modAxis` leaves -/

@[simp] theorem State.modAxis_settings : (s.modAxis a f).settings = s.settings := rfl

@[simp] theorem State.modAxis_groups : (s.modAxis a f).groups = s.groups := rfl

@[simp] theorem State.modAxis_headPort : (s.modAxis a f).headPort = s.headPort := rfl

@[simp] theorem State.modAxis_vehiclePort : (s.modAxis a f).vehiclePort = s.vehiclePort := rfl

@[simp] theorem State.modAxis_head : (s.modAxis a f).head = s.head := rfl

@[simp] theorem State.modAxis_vehicle : (s.modAxis a f).vehicle = s.vehicle := rfl

@[simp] theorem State.modAxis_bias : (s.modAxis a f).bias = s.bias := rfl

@[simp] theorem State.modAxis_shock : (s.modAxis a f).shock = s.shock := rfl

@[simp] theorem State.modAxis_encoders : (s.modAxis a f).encoders = s.encoders := rfl

@[simp] theorem State.modAxis_reactions : (s.modAxis a f).reactions = s.reactions := rfl

@[simp] theorem State.modAxis_owed : (s.modAxis a f).owed = s.owed := rfl

@[simp] theorem State.modAxis_bus : (s.modAxis a f).bus = s.bus := rfl

@[simp] theorem State.modAxis_stopLine : (s.modAxis a f).stopLine = s.stopLine := rfl

@[simp] theorem State.modAxis_time : (s.modAxis a f).time = s.time := rfl

@[simp] theorem State.modAxis_sync : (s.modAxis a f).sync = s.sync := rfl

@[simp] theorem State.modAxis_pwmPhase : (s.modAxis a f).pwmPhase = s.pwmPhase := rfl

@[simp] theorem State.modAxis_link : (s.modAxis a f).link = s.link := rfl

@[simp] theorem State.modAxis_freeCount : (s.modAxis a f).freeCount = s.freeCount := rfl

@[simp] theorem State.modAxis_pending : (s.modAxis a f).pending = s.pending := rfl

/-! ### What `modAxes` leaves -/

@[simp] theorem State.modAxes_settings : (s.modAxes f).settings = s.settings := rfl

@[simp] theorem State.modAxes_groups : (s.modAxes f).groups = s.groups := rfl

@[simp] theorem State.modAxes_headPort : (s.modAxes f).headPort = s.headPort := rfl

@[simp] theorem State.modAxes_vehiclePort : (s.modAxes f).vehiclePort = s.vehiclePort := rfl

@[simp] theorem State.modAxes_head : (s.modAxes f).head = s.head := rfl

@[simp] theorem State.modAxes_vehicle : (s.modAxes f).vehicle = s.vehicle := rfl

@[simp] theorem State.modAxes_bias : (s.modAxes f).bias = s.bias := rfl

@[simp] theorem State.modAxes_shock : (s.modAxes f).shock = s.shock := rfl

@[simp] theorem State.modAxes_encoders : (s.modAxes f).encoders = s.encoders := rfl

@[simp] theorem State.modAxes_reactions : (s.modAxes f).reactions = s.reactions := rfl

@[simp] theorem State.modAxes_owed : (s.modAxes f).owed = s.owed := rfl

@[simp] theorem State.modAxes_bus : (s.modAxes f).bus = s.bus := rfl

@[simp] theorem State.modAxes_stopLine : (s.modAxes f).stopLine = s.stopLine := rfl

@[simp] theorem State.modAxes_time : (s.modAxes f).time = s.time := rfl

@[simp] theorem State.modAxes_sync : (s.modAxes f).sync = s.sync := rfl

@[simp] theorem State.modAxes_pwmPhase : (s.modAxes f).pwmPhase = s.pwmPhase := rfl

@[simp] theorem State.modAxes_link : (s.modAxes f).link = s.link := rfl

@[simp] theorem State.modAxes_freeCount : (s.modAxes f).freeCount = s.freeCount := rfl

@[simp] theorem State.modAxes_pending : (s.modAxes f).pending = s.pending := rfl

/-! ### What `modEncoder` leaves -/

@[simp] theorem State.modEncoder_settings : (s.modEncoder i g).settings = s.settings := rfl

@[simp] theorem State.modEncoder_axes : (s.modEncoder i g).axes = s.axes := rfl

@[simp] theorem State.modEncoder_groups : (s.modEncoder i g).groups = s.groups := rfl

@[simp] theorem State.modEncoder_headPort : (s.modEncoder i g).headPort = s.headPort := rfl

@[simp] theorem State.modEncoder_vehiclePort : (s.modEncoder i g).vehiclePort = s.vehiclePort := rfl

@[simp] theorem State.modEncoder_head : (s.modEncoder i g).head = s.head := rfl

@[simp] theorem State.modEncoder_vehicle : (s.modEncoder i g).vehicle = s.vehicle := rfl

@[simp] theorem State.modEncoder_bias : (s.modEncoder i g).bias = s.bias := rfl

@[simp] theorem State.modEncoder_shock : (s.modEncoder i g).shock = s.shock := rfl

@[simp] theorem State.modEncoder_reactions : (s.modEncoder i g).reactions = s.reactions := rfl

@[simp] theorem State.modEncoder_owed : (s.modEncoder i g).owed = s.owed := rfl

@[simp] theorem State.modEncoder_bus : (s.modEncoder i g).bus = s.bus := rfl

@[simp] theorem State.modEncoder_stopLine : (s.modEncoder i g).stopLine = s.stopLine := rfl

@[simp] theorem State.modEncoder_time : (s.modEncoder i g).time = s.time := rfl

@[simp] theorem State.modEncoder_sync : (s.modEncoder i g).sync = s.sync := rfl

@[simp] theorem State.modEncoder_pwmPhase : (s.modEncoder i g).pwmPhase = s.pwmPhase := rfl

@[simp] theorem State.modEncoder_link : (s.modEncoder i g).link = s.link := rfl

@[simp] theorem State.modEncoder_freeCount : (s.modEncoder i g).freeCount = s.freeCount := rfl

@[simp] theorem State.modEncoder_pending : (s.modEncoder i g).pending = s.pending := rfl

/-! ### What `queueReport` leaves -/

@[simp] theorem State.queueReport_settings : (s.queueReport r).settings = s.settings := rfl

@[simp] theorem State.queueReport_axes : (s.queueReport r).axes = s.axes := rfl

@[simp] theorem State.queueReport_groups : (s.queueReport r).groups = s.groups := rfl

@[simp] theorem State.queueReport_headPort : (s.queueReport r).headPort = s.headPort := rfl

@[simp] theorem State.queueReport_vehiclePort : (s.queueReport r).vehiclePort = s.vehiclePort := rfl

@[simp] theorem State.queueReport_head : (s.queueReport r).head = s.head := rfl

@[simp] theorem State.queueReport_vehicle : (s.queueReport r).vehicle = s.vehicle := rfl

@[simp] theorem State.queueReport_bias : (s.queueReport r).bias = s.bias := rfl

@[simp] theorem State.queueReport_shock : (s.queueReport r).shock = s.shock := rfl

@[simp] theorem State.queueReport_encoders : (s.queueReport r).encoders = s.encoders := rfl

@[simp] theorem State.queueReport_reactions : (s.queueReport r).reactions = s.reactions := rfl

@[simp] theorem State.queueReport_owed : (s.queueReport r).owed = s.owed := rfl

@[simp] theorem State.queueReport_bus : (s.queueReport r).bus = s.bus := rfl

@[simp] theorem State.queueReport_stopLine : (s.queueReport r).stopLine = s.stopLine := rfl

@[simp] theorem State.queueReport_time : (s.queueReport r).time = s.time := rfl

@[simp] theorem State.queueReport_sync : (s.queueReport r).sync = s.sync := rfl

@[simp] theorem State.queueReport_pwmPhase : (s.queueReport r).pwmPhase = s.pwmPhase := rfl

@[simp] theorem State.queueReport_freeCount : (s.queueReport r).freeCount = s.freeCount := rfl

@[simp] theorem State.queueReport_pending : (s.queueReport r).pending = s.pending := rfl

/-! ### What `queueEvent` leaves -/

@[simp] theorem State.queueEvent_settings : (s.queueEvent k).settings = s.settings := rfl

@[simp] theorem State.queueEvent_axes : (s.queueEvent k).axes = s.axes := rfl

@[simp] theorem State.queueEvent_groups : (s.queueEvent k).groups = s.groups := rfl

@[simp] theorem State.queueEvent_headPort : (s.queueEvent k).headPort = s.headPort := rfl

@[simp] theorem State.queueEvent_vehiclePort : (s.queueEvent k).vehiclePort = s.vehiclePort := rfl

@[simp] theorem State.queueEvent_head : (s.queueEvent k).head = s.head := rfl

@[simp] theorem State.queueEvent_vehicle : (s.queueEvent k).vehicle = s.vehicle := rfl

@[simp] theorem State.queueEvent_bias : (s.queueEvent k).bias = s.bias := rfl

@[simp] theorem State.queueEvent_shock : (s.queueEvent k).shock = s.shock := rfl

@[simp] theorem State.queueEvent_encoders : (s.queueEvent k).encoders = s.encoders := rfl

@[simp] theorem State.queueEvent_reactions : (s.queueEvent k).reactions = s.reactions := rfl

@[simp] theorem State.queueEvent_owed : (s.queueEvent k).owed = s.owed := rfl

@[simp] theorem State.queueEvent_bus : (s.queueEvent k).bus = s.bus := rfl

@[simp] theorem State.queueEvent_stopLine : (s.queueEvent k).stopLine = s.stopLine := rfl

@[simp] theorem State.queueEvent_time : (s.queueEvent k).time = s.time := rfl

@[simp] theorem State.queueEvent_sync : (s.queueEvent k).sync = s.sync := rfl

@[simp] theorem State.queueEvent_pwmPhase : (s.queueEvent k).pwmPhase = s.pwmPhase := rfl

@[simp] theorem State.queueEvent_freeCount : (s.queueEvent k).freeCount = s.freeCount := rfl

@[simp] theorem State.queueEvent_pending : (s.queueEvent k).pending = s.pending := rfl

/-! ### What `tick` leaves -/

@[simp] theorem State.tick_settings : (s.tick).settings = s.settings := rfl

@[simp] theorem State.tick_groups : (s.tick).groups = s.groups := rfl

@[simp] theorem State.tick_headPort : (s.tick).headPort = s.headPort := rfl

@[simp] theorem State.tick_vehiclePort : (s.tick).vehiclePort = s.vehiclePort := rfl

@[simp] theorem State.tick_head : (s.tick).head = s.head := rfl

@[simp] theorem State.tick_vehicle : (s.tick).vehicle = s.vehicle := rfl

@[simp] theorem State.tick_bias : (s.tick).bias = s.bias := rfl

@[simp] theorem State.tick_shock : (s.tick).shock = s.shock := rfl

@[simp] theorem State.tick_encoders : (s.tick).encoders = s.encoders := rfl

@[simp] theorem State.tick_reactions : (s.tick).reactions = s.reactions := rfl

@[simp] theorem State.tick_owed : (s.tick).owed = s.owed := rfl

@[simp] theorem State.tick_bus : (s.tick).bus = s.bus := rfl

@[simp] theorem State.tick_stopLine : (s.tick).stopLine = s.stopLine := rfl

@[simp] theorem State.tick_sync : (s.tick).sync = s.sync := rfl

@[simp] theorem State.tick_link : (s.tick).link = s.link := rfl

@[simp] theorem State.tick_freeCount : (s.tick).freeCount = s.freeCount := rfl

@[simp] theorem State.tick_pending : (s.tick).pending = s.pending := rfl

end

end Machine

end Sys2Proof
end

