-- ==== Sys2Proof/Laws/Sequencer.lean ====
section
/-! SUPPORT. What the Segment Sequencer can change: everything else of the state stands through its operations.  The
part that stands is read as one value, `State.seqRest`, so that the lemmas compose by rewriting. -/

namespace Sys2Proof.Machine

/-- An axis with all that the Sequencer writes blanked: queue, counting, gain sets, lapse state, HOME start angle. -/
def AxisState.seqRest (x : AxisState) : AxisState :=
  { x with
    active := none
    waiting := []
    counting := none
    hold := ⟨0, 0, 0⟩
    move := ⟨0, 0, 0⟩
    staged := none
    stream := { x.stream with lapse := .clear }
    gen := { x.gen with homeStart := none } }

/-- A capture flag blanked. -/
def Encoder.seqRest (e : Encoder) : Encoder := { e with armed := false }

/-- The report slots and the reports-lost flag blanked. -/
def Link.seqRest (l : Link) : Link := { l with reports := [], reportsLost := false }

/-- The state with all that the Sequencer writes blanked. -/
def State.seqRest (s : State) : State :=
  { s with
    axes := s.axes.map AxisState.seqRest
    encoders := s.encoders.map Encoder.seqRest
    groups := []
    link := s.link.seqRest }

theorem Link.putTelemetry_seqRest (l : Link) (r : Report) : (l.putTelemetry r).seqRest = l.seqRest := by
  unfold Link.putTelemetry
  split
  · rfl
  · split <;> rfl

theorem Link.putOther_seqRest (l : Link) (r : Report) : (l.putOther r).seqRest = l.seqRest := by
  unfold Link.putOther
  split
  · rfl
  · split <;> rfl

@[simp] theorem State.queueReport_seqRest (s : State) (r : Report) : (s.queueReport r).seqRest = s.seqRest := by
  unfold State.queueReport State.seqRest
  split <;> simp only [Link.putTelemetry_seqRest, Link.putOther_seqRest]

@[simp] theorem State.queueEvent_seqRest (s : State) (k : EventKind) : (s.queueEvent k).seqRest = s.seqRest :=
  s.queueReport_seqRest _

/-- A change of an axis that keeps its rest keeps the state's rest. -/
theorem State.modAxis_seqRest (s : State) (a : Axis) (f : AxisState → AxisState)
    (h : ∀ x, (f x).seqRest = x.seqRest) : (s.modAxis a f).seqRest = s.seqRest := by
  have e : (s.axes.set a (f (s.axes.get a))).map AxisState.seqRest = s.axes.map AxisState.seqRest := by
    apply Four.ext_get
    intro i
    by_cases hi : i = a
    · subst hi; simp [h]
    · simp [hi]
  simp only [State.seqRest, State.modAxis, e]

/-- A change of an encoder input that keeps its rest keeps the state's rest. -/
theorem State.modEncoder_seqRest (s : State) (i : Input) (f : Encoder → Encoder)
    (h : ∀ e, (f e).seqRest = e.seqRest) : (s.modEncoder i f).seqRest = s.seqRest := by
  have e : (s.encoders.set i (f (s.encoders.get i))).map Encoder.seqRest = s.encoders.map Encoder.seqRest := by
    apply Four.ext_get
    intro j
    by_cases hj : j = i
    · subst hj; simp [h]
    · simp [hj]
  simp only [State.seqRest, State.modEncoder, e]

@[simp] theorem State.giveOutcome_seqRest (s : State) (a : Axis) (g : Segment) (o : SegOutcome) (m c : Bool) :
    (s.giveOutcome a g o m c).seqRest = s.seqRest := by
  unfold State.giveOutcome
  split
  · exact s.queueReport_seqRest _
  · rfl

theorem AxisState.applyStaged_seqRest (x : AxisState) : x.applyStaged.seqRest = x.seqRest := by
  unfold AxisState.applyStaged
  split
  · rfl
  · split <;> rfl

theorem AxisState.applyStagedOf_seqRest (x : AxisState) (m : ApplyMode) :
    (x.applyStagedOf m).seqRest = x.seqRest := by
  unfold AxisState.applyStagedOf
  split
  · rfl
  · split
    · exact x.applyStaged_seqRest
    · rfl

@[simp] theorem State.setCapture_seqRest (s : State) (a : Axis) (b : Bool) : (s.setCapture a b).seqRest = s.seqRest := by
  unfold State.setCapture
  split
  · rfl
  · exact s.modEncoder_seqRest _ _ fun _ => rfl

@[simp] theorem State.leaveActive_seqRest (s : State) (a : Axis) (g : Segment) (o : SegOutcome) :
    (s.leaveActive a g o).seqRest = s.seqRest := by
  unfold State.leaveActive
  split
  · exact s.modAxis_seqRest _ _ fun _ => rfl
  · split
    · rfl
    · rfl
    · rw [State.modAxis_seqRest, State.setCapture_seqRest]
      exact fun _ => rfl
  · rfl

@[simp] theorem State.endActive_seqRest (s : State) (a : Axis) (o : SegOutcome) :
    (s.endActive a o).seqRest = s.seqRest := by
  unfold State.endActive
  split
  · rfl
  · rw [State.modAxis_seqRest, State.leaveActive_seqRest, State.giveOutcome_seqRest]
    exact fun _ => rfl

@[simp] theorem State.activateKind_seqRest (s : State) (a : Axis) (g : Segment) :
    (s.activateKind a g).seqRest = s.seqRest := by
  unfold State.activateKind
  split
  · unfold State.activateStream
    split
    · rw [State.queueEvent_seqRest]
      exact s.modAxis_seqRest _ _ fun _ => rfl
    · exact s.modAxis_seqRest _ _ fun _ => rfl
  · unfold State.activateHome
    rw [State.setCapture_seqRest]
    exact s.modAxis_seqRest _ _ fun _ => rfl
  · rfl

@[simp] theorem State.activate_seqRest (s : State) (a : Axis) (m : Bool) : (s.activate a m).seqRest = s.seqRest := by
  unfold State.activate
  split
  · rfl
  · rw [State.activateKind_seqRest, State.modAxis_seqRest, State.endActive_seqRest]
    intro x
    rw [AxisState.applyStagedOf_seqRest]
    rfl

@[simp] theorem State.activateAll_seqRest (s : State) (l : List Axis) (m : Bool) :
    (s.activateAll l m).seqRest = s.seqRest := by
  unfold State.activateAll
  induction l generalizing s with
  | nil => rfl
  | cons a l ih => rw [List.foldl_cons, ih, State.activate_seqRest]

@[simp] theorem State.modGroup_seqRest (s : State) (id : Nat) (f : GroupEntry → GroupEntry) :
    (s.modGroup id f).seqRest = s.seqRest := rfl

@[simp] theorem State.closeGroup_seqRest (s : State) (id : Nat) : (s.closeGroup id).seqRest = s.seqRest := rfl

@[simp] theorem State.fireGroup_seqRest (s : State) (e : GroupEntry) (m : Bool) :
    (s.fireGroup e m).seqRest = s.seqRest := by
  rw [State.fireGroup, State.closeGroup_seqRest, State.activateAll_seqRest]

@[simp] theorem State.arrive_seqRest (s : State) (a : Axis) (id : Nat) : (s.arrive a id).1.seqRest = s.seqRest := by
  unfold State.arrive
  split
  · rfl
  · split
    · rfl
    · dsimp only
      split
      · split
        · rw [State.fireGroup_seqRest, State.modGroup_seqRest]
        · split
          · rfl
          · rw [State.fireGroup_seqRest, State.modGroup_seqRest]
      · rfl

@[simp] theorem State.judgeOne_seqRest (s : State) (a : Axis) : (s.judgeOne a).1.seqRest = s.seqRest := by
  unfold State.judgeOne
  split
  · split
    · rfl
    · split
      · split
        · rfl
        · split
          · rfl
          · split
            · exact s.modAxis_seqRest _ _ fun _ => rfl
            · exact s.activate_seqRest _ _
      · exact s.arrive_seqRest _ _
  · rfl

theorem judgeLoop_seqRest (n : Nat) (l : List Axis) (s : State) : (judgeLoop n l s).seqRest = s.seqRest := by
  induction n generalizing l s with
  | zero => rfl
  | succ n ih =>
    cases l with
    | nil => rfl
    | cons a l => rw [judgeLoop, ih, State.judgeOne_seqRest]

@[simp] theorem State.judge_seqRest (s : State) (l : List Axis) : (s.judge l).seqRest = s.seqRest :=
  judgeLoop_seqRest _ _ _

@[simp] theorem State.completeActive_seqRest (s : State) (a : Axis) (o : SegOutcome) :
    (s.completeActive a o).seqRest = s.seqRest := by
  rw [State.completeActive, State.judge_seqRest, State.endActive_seqRest]

@[simp] theorem State.endActiveIf_seqRest (s : State) (a : Axis) (test : ActiveSegment → Bool) (o : SegOutcome) :
    (s.endActiveIf a test o).seqRest = s.seqRest := by
  unfold State.endActiveIf
  split
  · rfl
  · split <;> simp

theorem fireGroups_seqRest (l : List GroupEntry) (m : Bool) (s : State) :
    (l.foldl (fun s e => s.fireGroup e m) s).seqRest = s.seqRest := by
  induction l generalizing s with
  | nil => rfl
  | cons e l ih => rw [List.foldl_cons, ih, State.fireGroup_seqRest]

@[simp] theorem State.startCounted_seqRest (s : State) (l : List Axis) (g : List GroupEntry) (m : Bool) :
    (s.startCounted l g m).seqRest = s.seqRest := by
  rw [State.startCounted, State.judge_seqRest, fireGroups_seqRest, State.activateAll_seqRest]

@[simp] theorem State.countEdge_seqRest (s : State) : s.countEdge.seqRest = s.seqRest := by
  unfold State.countEdge
  rw [State.startCounted_seqRest]
  simp only [State.seqRest, Four.map_map]
  rfl

@[simp] theorem State.syncLossStarts_seqRest (s : State) : s.syncLossStarts.seqRest = s.seqRest := by
  unfold State.syncLossStarts
  rw [State.startCounted_seqRest]
  rfl

@[simp] theorem State.dropGroupSegment_seqRest (s : State) (id : Nat) (a : Axis) :
    (s.dropGroupSegment id a).seqRest = s.seqRest := by
  unfold State.dropGroupSegment
  split
  · rfl
  · rw [State.giveOutcome_seqRest]
    exact s.modAxis_seqRest _ _ fun _ => rfl

theorem dropGroupSegments_seqRest (id : Nat) (l : List Axis) (s : State) :
    (l.foldl (fun s m => s.dropGroupSegment id m) s).seqRest = s.seqRest := by
  induction l generalizing s with
  | nil => rfl
  | cons a l ih => rw [List.foldl_cons, ih, State.dropGroupSegment_seqRest]

@[simp] theorem State.breakGroup_seqRest (s : State) (a : Axis) (id : Nat) : (s.breakGroup a id).seqRest = s.seqRest := by
  unfold State.breakGroup
  split
  · rfl
  · split
    · rw [State.judge_seqRest, State.closeGroup_seqRest, State.queueEvent_seqRest, dropGroupSegments_seqRest]
    · rfl

@[simp] theorem State.removeWaiting_seqRest (s : State) (a : Axis) (o : SegOutcome) (g : Segment) :
    (s.removeWaiting a o g).seqRest = s.seqRest := by
  unfold State.removeWaiting
  split
  · exact s.giveOutcome_seqRest _ _ _ _ _
  · rw [State.breakGroup_seqRest, State.giveOutcome_seqRest]

theorem removeAll_seqRest (a : Axis) (o : SegOutcome) (l : List Segment) (s : State) :
    (l.foldl (fun s g => s.removeWaiting a o g) s).seqRest = s.seqRest := by
  induction l generalizing s with
  | nil => rfl
  | cons g l ih => rw [List.foldl_cons, ih, State.removeWaiting_seqRest]

@[simp] theorem State.flushWaiting_seqRest (s : State) (a : Axis) (o : SegOutcome) :
    (s.flushWaiting a o).seqRest = s.seqRest := by
  rw [State.flushWaiting, removeAll_seqRest]
  exact s.modAxis_seqRest _ _ fun _ => rfl

@[simp] theorem State.flushAll_seqRest (s : State) (a : Axis) (o : SegOutcome) :
    (s.flushAll a o).seqRest = s.seqRest := by
  rw [State.flushAll, State.flushWaiting_seqRest, State.endActive_seqRest]

/-! ### What equal rests say -/

section

variable {s t : State} (h : t.seqRest = s.seqRest) (a : Axis)

include h

/-- Equal rests of the states are equal rests of each axis. -/
theorem State.axis_of_seqRest : (t.axis a).seqRest = (s.axis a).seqRest := by
  have e := congrArg (fun u => u.axes.get a) h
  simpa [State.seqRest, State.axis] using e

theorem State.life_of_seqRest : (t.axis a).life = (s.axis a).life := by
  have e := congrArg AxisState.life (State.axis_of_seqRest h a)
  exact e

theorem State.cfg_of_seqRest : (t.axis a).cfg = (s.axis a).cfg := by
  have e := congrArg AxisState.cfg (State.axis_of_seqRest h a)
  exact e

theorem State.drive_of_seqRest : (t.axis a).drive = (s.axis a).drive := by
  have e := congrArg AxisState.drive (State.axis_of_seqRest h a)
  exact e

theorem State.test_of_seqRest : (t.axis a).test = (s.axis a).test := by
  have e := congrArg AxisState.test (State.axis_of_seqRest h a)
  exact e

theorem State.faults_of_seqRest : (t.axis a).faults = (s.axis a).faults := by
  have e := congrArg AxisState.faults (State.axis_of_seqRest h a)
  exact e

theorem State.marks_of_seqRest : (t.axis a).marks = (s.axis a).marks := by
  have e := congrArg AxisState.marks (State.axis_of_seqRest h a)
  exact e

theorem State.loop_of_seqRest : (t.axis a).loop = (s.axis a).loop := by
  have e := congrArg AxisState.loop (State.axis_of_seqRest h a)
  exact e

theorem State.meas_of_seqRest : (t.axis a).meas = (s.axis a).meas := by
  have e := congrArg AxisState.meas (State.axis_of_seqRest h a)
  exact e

end

section

variable {s t : State} (h : t.seqRest = s.seqRest)

include h

theorem State.settings_of_seqRest : t.settings = s.settings := by
  have e := congrArg State.settings h
  exact e

theorem State.reactions_of_seqRest : t.reactions = s.reactions := by
  have e := congrArg State.reactions h
  exact e

theorem State.stopLine_of_seqRest : t.stopLine = s.stopLine := by
  have e := congrArg State.stopLine h
  exact e

theorem State.bus_of_seqRest : t.bus = s.bus := by
  have e := congrArg State.bus h
  exact e

theorem State.sync_of_seqRest : t.sync = s.sync := by
  have e := congrArg State.sync h
  exact e

theorem State.time_of_seqRest : t.time = s.time := by
  have e := congrArg State.time h
  exact e

theorem State.pending_of_seqRest : t.pending = s.pending := by
  have e := congrArg State.pending h
  exact e

theorem State.freeCount_of_seqRest : t.freeCount = s.freeCount := by
  have e := congrArg State.freeCount h
  exact e

end

end Sys2Proof.Machine
end

