-- ==== Sys2Proof/Laws/Device.lean ====
section
/-! SUPPORT. What the operations of one axis can change outside the axes: encoder capture flags, the group table and
the outbound queue.  The part that stands is read as one value, `State.deviceRest`. -/

namespace Sys2Proof.Machine

/-- The outbound queue and the transmitter blanked. -/
def Link.deviceRest (l : Link) : Link := { l with reports := [], reportsLost := false, replies := [], tx := none }

/-- The state with the axes, the capture flags, the groups and the outbound queue blanked. -/
def State.deviceRest (s : State) : State :=
  { s with
    axes := .fill .reset
    encoders := s.encoders.map Encoder.seqRest
    groups := []
    link := s.link.deviceRest }

/-- What stands through the Sequencer stands for the device. -/
theorem State.deviceRest_of_seqRest {s t : State} (h : t.seqRest = s.seqRest) : t.deviceRest = s.deviceRest := by
  have e : ∀ u : State, u.seqRest.deviceRest = u.deviceRest := fun _ => rfl
  rw [← e t, h, e s]

@[simp] theorem State.modAxis_deviceRest (s : State) (a : Axis) (f : AxisState → AxisState) :
    (s.modAxis a f).deviceRest = s.deviceRest := rfl

@[simp] theorem State.modAxes_deviceRest (s : State) (f : AxisState → AxisState) :
    (s.modAxes f).deviceRest = s.deviceRest := rfl

@[simp] theorem State.queueReport_deviceRest (s : State) (r : Report) : (s.queueReport r).deviceRest = s.deviceRest :=
  State.deviceRest_of_seqRest (s.queueReport_seqRest r)

@[simp] theorem State.queueEvent_deviceRest (s : State) (k : EventKind) : (s.queueEvent k).deviceRest = s.deviceRest :=
  State.deviceRest_of_seqRest (s.queueEvent_seqRest k)

@[simp] theorem State.judge_deviceRest (s : State) (l : List Axis) : (s.judge l).deviceRest = s.deviceRest :=
  State.deviceRest_of_seqRest (s.judge_seqRest l)

@[simp] theorem State.setCapture_deviceRest (s : State) (a : Axis) (b : Bool) :
    (s.setCapture a b).deviceRest = s.deviceRest :=
  State.deviceRest_of_seqRest (s.setCapture_seqRest a b)

@[simp] theorem State.activate_deviceRest (s : State) (a : Axis) (m : Bool) : (s.activate a m).deviceRest = s.deviceRest :=
  State.deviceRest_of_seqRest (s.activate_seqRest a m)

@[simp] theorem State.completeActive_deviceRest (s : State) (a : Axis) (o : SegOutcome) :
    (s.completeActive a o).deviceRest = s.deviceRest :=
  State.deviceRest_of_seqRest (s.completeActive_seqRest a o)

@[simp] theorem State.flushAll_deviceRest (s : State) (a : Axis) (o : SegOutcome) :
    (s.flushAll a o).deviceRest = s.deviceRest :=
  State.deviceRest_of_seqRest (s.flushAll_seqRest a o)

@[simp] theorem State.flushWaiting_deviceRest (s : State) (a : Axis) (o : SegOutcome) :
    (s.flushWaiting a o).deviceRest = s.deviceRest :=
  State.deviceRest_of_seqRest (s.flushWaiting_seqRest a o)

@[simp] theorem State.countEdge_deviceRest (s : State) : s.countEdge.deviceRest = s.deviceRest :=
  State.deviceRest_of_seqRest s.countEdge_seqRest

@[simp] theorem State.syncLossStarts_deviceRest (s : State) : s.syncLossStarts.deviceRest = s.deviceRest :=
  State.deviceRest_of_seqRest s.syncLossStarts_seqRest

@[simp] theorem State.startTransmit_deviceRest (s : State) : s.startTransmit.deviceRest = s.deviceRest := by
  unfold State.startTransmit
  split
  · rfl
  · split
    · rfl
    · split <;> rfl

/-! ### The Axis Controller -/

@[simp] theorem State.setLife_deviceRest (s : State) (a : Axis) (l : Life) : (s.setLife a l).deviceRest = s.deviceRest :=
  rfl

@[simp] theorem State.setBrake_deviceRest (s : State) (a : Axis) (b : Bool) : (s.setBrake a b).deviceRest = s.deviceRest :=
  rfl

@[simp] theorem State.requestDrive_deviceRest (s : State) (a : Axis) (st : DriveState) :
    (s.requestDrive a st).deviceRest = s.deviceRest := rfl

@[simp] theorem State.placeDrive_deviceRest (s : State) (a : Axis) (st : DriveState) :
    (s.placeDrive a st).deviceRest = s.deviceRest := rfl

@[simp] theorem State.leavePowered_deviceRest (s : State) (a : Axis) : (s.leavePowered a).deviceRest = s.deviceRest := by
  rw [State.leavePowered, State.modAxis_deviceRest, State.setCapture_deviceRest]

@[simp] theorem State.enterFaulted_deviceRest (s : State) (a : Axis) : (s.enterFaulted a).deviceRest = s.deviceRest := by
  simp [State.enterFaulted]

@[simp] theorem State.enterEngage_deviceRest (s : State) (a : Axis) : (s.enterEngage a).deviceRest = s.deviceRest := by
  simp [State.enterEngage]

@[simp] theorem State.engageExpiry_deviceRest (s : State) (a : Axis) : (s.engageExpiry a).deviceRest = s.deviceRest := by
  simp [State.engageExpiry]

@[simp] theorem State.armingExpiry_deviceRest (s : State) (a : Axis) : (s.armingExpiry a).deviceRest = s.deviceRest := by
  simp [State.armingExpiry]

@[simp] theorem State.decelTest_deviceRest (s : State) (a : Axis) : (s.decelTest a).deviceRest = s.deviceRest := by
  unfold State.decelTest State.decelEnd
  split
  · split <;> simp
  · rfl

@[simp] theorem State.endTest_deviceRest (s : State) (a : Axis) : (s.endTest a).deviceRest = s.deviceRest := by
  simp [State.endTest, State.testDone, State.clearTest]

@[simp] theorem State.abortTest_deviceRest (s : State) (a : Axis) : (s.abortTest a).deviceRest = s.deviceRest := by
  unfold State.abortTest
  split
  · simp [State.testDone, State.clearTest]
  · rfl

@[simp] theorem State.armAxis_deviceRest (s : State) (a : Axis) : (s.armAxis a).deviceRest = s.deviceRest := rfl

/-! ### The Fault Monitor -/

@[simp] theorem State.endCondition_deviceRest (s : State) (k : FaultKind) : (s.endCondition k).deviceRest = s.deviceRest :=
  rfl

@[simp] theorem State.react_deviceRest (s : State) (a : Axis) (l : Level) : (s.react a l).deviceRest = s.deviceRest := by
  cases l
  · rfl
  · rfl
  · simp only [State.react, State.reactStop]
    split <;> simp
  · simp only [State.react, State.reactBrake]
    split
    · simp
    · split <;> simp
  · simp only [State.react, State.reactOpen]
    split
    · simp
    · split
      · simp
      · split <;> simp

@[simp] theorem State.raise_deviceRest (s : State) (a : Axis) (k : FaultKind) : (s.raise a k).deviceRest = s.deviceRest := by
  unfold State.raise State.settleOvercurrent State.reportFault
  split
  · dsimp only
    split <;> simp [State.raiseEntry]
  · rfl

@[simp] theorem State.raiseAll_deviceRest (s : State) (l : List Axis) (k : FaultKind) :
    (s.raiseAll l k).deviceRest = s.deviceRest := by
  unfold State.raiseAll
  induction l generalizing s with
  | nil => rfl
  | cons a l ih => rw [List.foldl_cons, ih]; simp

/-- A detector's raises hand over those that wait, and change nothing else of the device (R119). -/
@[simp] theorem State.raiseEach_deviceRest (s : State) (l : List Axis) (k : FaultKind) (p : AxisState → Bool) :
    (s.raiseEach l k p).deviceRest = (s.handOver (raisesLater l (s.axesWhere p)) k).deviceRest :=
  State.raiseAll_deviceRest _ _ k

/-- A raise as an event takes itself from those that wait, and changes nothing else of the device (R119). -/
@[simp] theorem State.faultRaise_deviceRest (s : State) (a : Axis) (k : FaultKind) :
    (s.faultRaise a k).deviceRest = (s.takeOwed a k).deviceRest := by
  rw [State.faultRaise, State.startTransmit_deviceRest]
  unfold State.settleOwed
  split <;> exact (s.takeOwed a k).raise_deviceRest a k

@[simp] theorem State.clearAxis_deviceRest (s : State) (a : Axis) : (s.clearAxis a).deviceRest = s.deviceRest := by
  unfold State.clearAxis State.clearTransition
  split
  · rfl
  · split <;> simp

/-! ### The stages of an update -/

theorem State.ite_deviceRest {c : Prop} [Decidable c] {s t u : State} (hs : s.deviceRest = u.deviceRest)
    (ht : t.deviceRest = u.deviceRest) : (if c then s else t).deviceRest = u.deviceRest := by
  split
  · exact hs
  · exact ht

@[simp] theorem State.measure_deviceRest (s : State) (a : Axis) : (s.measure a).deviceRest = s.deviceRest := by
  unfold State.measure
  dsimp only
  split <;> rfl

@[simp] theorem State.staleCheck_deviceRest (s : State) (a : Axis) : (s.staleCheck a).deviceRest = s.deviceRest :=
  State.ite_deviceRest (s.raise_deviceRest _ _) rfl

@[simp] theorem State.sequencerStep_seqRest (s : State) (a : Axis) (r : Bool) :
    (s.sequencerStep a r).seqRest = s.seqRest := by
  have h1 : (s.modAxis a fun x => x.addElapsed (s.pausedAxis a)).seqRest = s.seqRest := by
    refine s.modAxis_seqRest _ _ fun x => ?_
    unfold AxisState.addElapsed
    split
    · rfl
    · split <;> rfl
  have h2 : ∀ u : State, (u.durationEnd a).seqRest = u.seqRest := fun u => u.endActiveIf_seqRest _ _ _
  have h3 : ∀ u : State, (u.timeLimitEnd a).seqRest = u.seqRest := fun u => u.endActiveIf_seqRest _ _ _
  have h4 : ∀ u : State, (u.homeCapture a r).seqRest = u.seqRest := fun u => u.endActiveIf_seqRest _ _ _
  have h5 : ∀ u : State, (u.activateStep a).seqRest = u.seqRest := by
    intro u
    unfold State.activateStep
    split <;> simp
  unfold State.sequencerStep
  split
  · rw [h5, h4, h3, h2, h1]
  · rfl

@[simp] theorem State.sequencerStep_deviceRest (s : State) (a : Axis) (r : Bool) :
    (s.sequencerStep a r).deviceRest = s.deviceRest :=
  State.deviceRest_of_seqRest (s.sequencerStep_seqRest a r)

@[simp] theorem State.limitStopEvent_deviceRest (s : State) (a : Axis) (l m : Option LimitSide) :
    (s.limitStopEvent a l m).deviceRest = s.deviceRest := by
  unfold State.limitStopEvent
  split
  · rfl
  · split <;> simp

@[simp] theorem State.moveStage_deviceRest (s : State) (a : Axis) (h : Bool) : (s.moveStage a h).deviceRest = s.deviceRest := by
  unfold State.moveStage
  dsimp only
  rw [State.limitStopEvent_deviceRest]
  split <;> simp

@[simp] theorem State.followStage_deviceRest (s : State) (a : Axis) (h : Bool) :
    (s.followStage a h).deviceRest = s.deviceRest := by
  unfold State.followStage
  dsimp only
  split <;> simp

@[simp] theorem State.homedEvent_deviceRest (s : State) (a : Axis) : (s.homedEvent a).deviceRest = s.deviceRest := by
  unfold State.homedEvent
  dsimp only
  split <;> simp

@[simp] theorem State.setpointStage_deviceRest (s : State) (a : Axis) (r h : Bool) :
    (s.setpointStage a r h).deviceRest = s.deviceRest := by
  unfold State.setpointStage
  cases s.pausedAxis a <;> cases r <;> simp

@[simp] theorem State.checkMark_deviceRest (s : State) (a : Axis) (p : Int) (i : Fin 4) :
    (s.checkMark a p i).deviceRest = s.deviceRest := by
  unfold State.checkMark
  split
  · rfl
  · split
    · rfl
    · simp

@[simp] theorem State.markStage_deviceRest (s : State) (a : Axis) (p : Int) (r : Bool) :
    (s.markStage a p r).deviceRest = s.deviceRest := by
  unfold State.markStage
  split <;> simp

@[simp] theorem State.loopStage_deviceRest (s : State) (a : Axis) (g m : Gains) :
    (s.loopStage a g m).deviceRest = s.deviceRest := rfl

@[simp] theorem State.trackingWatch_deviceRest (s : State) (a : Axis) : (s.trackingWatch a).deviceRest = s.deviceRest := by
  unfold State.trackingWatch
  dsimp only
  split
  · rfl
  · split <;> simp

@[simp] theorem State.saturationWatch_deviceRest (s : State) (a : Axis) :
    (s.saturationWatch a).deviceRest = s.deviceRest := by
  unfold State.saturationWatch
  dsimp only
  split
  · rfl
  · split <;> simp

@[simp] theorem State.overrunWatch_deviceRest (s : State) (a : Axis) (j : Option Int) (x h : Bool) :
    (s.overrunWatch a j x h).deviceRest = s.deviceRest := by
  unfold State.overrunWatch
  dsimp only
  split
  · split <;> simp
  · simp

@[simp] theorem State.watchStage_deviceRest (s : State) (a : Axis) (j : Option Int) (x h : Bool) :
    (s.watchStage a j x h).deviceRest = s.deviceRest := by
  have e : ∀ (u : State) (f : State → State), (∀ v, (f v).deviceRest = v.deviceRest) →
      (u.ifPowered a f).deviceRest = u.deviceRest := by
    intro u f hf
    unfold State.ifPowered
    split
    · exact hf u
    · rfl
  rw [State.watchStage, e _ (fun s => s.overrunWatch a j x h) fun v => v.overrunWatch_deviceRest a j x h,
    e _ (fun s => s.saturationWatch a) fun v => v.saturationWatch_deviceRest a, State.trackingWatch_deviceRest]

@[simp] theorem State.laterStages_deviceRest (s : State) (a : Axis) (p : Int) (r h : Bool) (j : Option Int)
    (g m : Gains) : (s.laterStages a p r h j g m).deviceRest = s.deviceRest := by
  simp [State.laterStages]

/-- An axis update changes nothing of the device outside the axes, the capture flags, the group table and the
outbound queue (R69). -/
@[simp] theorem State.axisUpdate_deviceRest (s : State) (a : Axis) : (s.axisUpdate a).deviceRest = s.deviceRest := by
  unfold State.axisUpdate
  split
  · dsimp only
    split <;> simp
  · rfl

end Sys2Proof.Machine
end

