-- ==== Sys2Proof/Laws/Ops.lean ====
section
/-! SUPPORT. What the named operations can do, said once: the order of raises, clamping, the transmitter's choice, the
outbound queue, and the byte order of the link. -/

namespace Sys2Proof.Machine

/-! ### The order of a detector's raises -/

theorem mem_allAxes (a : Axis) : a ∈ allAxes := by revert a; decide

@[simp] theorem State.mem_axesWhere (s : State) (p : AxisState → Bool) (a : Axis) :
    a ∈ s.axesWhere p ↔ p (s.axis a) = true := by simp [State.axesWhere, mem_allAxes]

/-- The raises taken at once are those on the axes of the order that are to be raised. -/
@[simp] theorem mem_raisesNow (order raised : List Axis) (a : Axis) :
    a ∈ raisesNow order raised ↔ a ∈ order ∧ a ∈ raised := by simp [raisesNow, List.mem_eraseDups]

/-- The raises that wait are those that the order leaves out. -/
@[simp] theorem mem_raisesLater (order raised : List Axis) (a : Axis) :
    a ∈ raisesLater order raised ↔ a ∈ raised ∧ a ∉ order := by simp [raisesLater]

/-! ### Clamping -/

theorem clamp_ge {x lo hi : Int} (h : lo ≤ hi) : lo ≤ clamp x lo hi := by
  unfold clamp; split <;> [omega; split <;> omega]

theorem clamp_le {x lo hi : Int} (h : lo ≤ hi) : clamp x lo hi ≤ hi := by
  unfold clamp; split <;> [omega; split <;> omega]

theorem clamp_eq_self {x lo hi : Int} (h1 : lo ≤ x) (h2 : x ≤ hi) : clamp x lo hi = x := by
  unfold clamp; split <;> [omega; split <;> omega]

theorem magnitude_nonneg (x : Int) : 0 ≤ magnitude x := by unfold magnitude; split <;> omega

theorem magnitude_eq_natAbs (x : Int) : magnitude x = x.natAbs := by unfold magnitude; split <;> omega

/-! ### The transmitter's choice -/

/-- `takeFirst` takes what `find?` finds and leaves what `eraseP` leaves. -/
theorem takeFirst_eq (p : Report → Bool) (l : List Report) :
    takeFirst p l = (l.find? p).map fun r => (r, l.eraseP p) := by
  induction l with
  | nil => rfl
  | cons r rest ih =>
    by_cases h : p r = true
    · simp [takeFirst, h]
    · have h' : p r = false := by simpa using h
      rw [takeFirst, if_neg h, ih, List.find?_cons_of_neg h, List.eraseP_cons_of_neg h]
      cases List.find? p rest <;> rfl

/-- The transmitter leaves nothing out: with no report chosen there is none. -/
theorem chooseReport_none {l : List Report} (h : chooseReport l = none) : l = [] := by
  unfold chooseReport at h
  simp only [takeFirst_eq] at h
  cases l with
  | nil => rfl
  | cons r rest =>
    exfalso
    by_cases hf : (r :: rest).find? Report.isFault = none
    · by_cases hn : ((r :: rest).find? fun r => !r.isTelemetry) = none
      · simp only [hf, hn, Option.map_none] at h
        by_cases ht : r.isTelemetry = true
        · rw [List.find?_cons_of_pos ht] at h; simp at h
        · have := List.find?_eq_none.mp hn r List.mem_cons_self
          simp [ht] at this
      · obtain ⟨q, hq⟩ := Option.ne_none_iff_exists'.mp hn
        simp [hf, hq] at h
    · obtain ⟨q, hq⟩ := Option.ne_none_iff_exists'.mp hf
      simp [hq] at h

/-- The idle transmitter changes nothing but the replies, the reports and the frame being sent. -/
theorem startTransmit_cases (s : State) :
    s.startTransmit = s ∨
      (s.link.tx = none ∧ ∃ replies reports tx,
        s.startTransmit = { s with link := { s.link with replies := replies, reports := reports, tx := some tx } }) := by
  unfold State.startTransmit
  split
  · exact Or.inl rfl
  · rename_i h
    split
    · exact Or.inr ⟨h, _, s.link.reports, _, rfl⟩
    · split
      · exact Or.inl rfl
      · exact Or.inr ⟨h, s.link.replies, _, _, rfl⟩

theorem startTransmit_of_sending {s : State} (h : s.link.tx.isSome = true) : s.startTransmit = s := by
  unfold State.startTransmit
  split
  · rfl
  · rename_i h'; rw [h'] at h; cases h

/-! ### The outbound queue -/

/-- A queued report leaves everything of the link but the reports and the reports-lost flag. -/
theorem queueReport_link (s : State) (r : Report) :
    { (s.queueReport r).link with reports := s.link.reports, reportsLost := s.link.reportsLost } = s.link := by
  unfold State.queueReport Link.putTelemetry Link.putOther
  repeat' split <;> try rfl

/-- A report other than TELEMETRY waits in a slot, or was lost with the flag set. -/
theorem queueReport_other {s : State} {r : Report} (h : r.isTelemetry = false) :
    r ∈ (s.queueReport r).link.reports ∨ (s.queueReport r).link.reportsLost = true := by
  unfold State.queueReport Link.putOther
  simp only [h, Bool.false_eq_true, if_false]
  split
  · exact Or.inl (by simp)
  · split
    · exact Or.inl (by simp)
    · exact Or.inr rfl

/-! ### Byte order -/

theorem length_bytesOf16 (w : BitVec 16) : (bytesOf16 w).length = 2 := rfl
theorem length_bytesOf32 (w : BitVec 32) : (bytesOf32 w).length = 4 := rfl

/-- A 16-bit word is its two bytes, the less significant first. -/
theorem bytes16_join (w : BitVec 16) : ((w >>> 8).setWidth 8 ++ w.setWidth 8 : BitVec 16) = w := by
  ext i hi
  simp only [BitVec.getElem_append, BitVec.getElem_setWidth, BitVec.getLsbD_ushiftRight]
  split
  · rw [BitVec.getLsbD_eq_getElem]
  · rw [← BitVec.getLsbD_eq_getElem]; congr 1; omega

/-- A 32-bit word is its four bytes, the least significant first. -/
theorem bytes32_join (w : BitVec 32) :
    ((w >>> 24).setWidth 8 ++ (w >>> 16).setWidth 8 ++ (w >>> 8).setWidth 8 ++ w.setWidth 8 : BitVec 32) = w := by
  ext i hi
  simp only [BitVec.getElem_append, BitVec.getElem_setWidth, BitVec.getLsbD_ushiftRight]
  split
  · rw [BitVec.getLsbD_eq_getElem]
  · split
    · rw [← BitVec.getLsbD_eq_getElem]; congr 1; omega
    · split
      · rw [← BitVec.getLsbD_eq_getElem]; congr 1; omega
      · rw [← BitVec.getLsbD_eq_getElem]; congr 1; omega

/-- A signed number of four bytes reads back from the bytes it is sent as. -/
theorem readS32_put32 {x : Int} (h1 : -2147483648 ≤ x) (h2 : x ≤ 2147483647) (rest : List Byte) :
    readS32 (put32 x ++ rest) 0 = x := by
  have h : word32 (put32 x ++ rest) 0 = BitVec.ofInt 32 x := bytes32_join _
  rw [readS32, h, BitVec.toInt_ofInt]
  exact Int.bmod_eq_of_le (by norm_num; omega) (by norm_num; omega)

/-- The sensor ports' frames end in the byte that makes their sum 0. -/
theorem byteSum_append (p q : List Byte) : byteSum (p ++ q) = byteSum p + byteSum q := by
  have h : ∀ (l : List Byte) (c : Byte), l.foldl (· + ·) c = c + byteSum l := by
    intro l
    induction l with
    | nil => intro c; simp [byteSum]
    | cons b rest ih =>
      intro c
      have e : byteSum (b :: rest) = b + byteSum rest := by
        rw [byteSum, List.foldl_cons, ih, zero_add]
      rw [List.foldl_cons, ih, e, BitVec.add_assoc]
  rw [byteSum, List.foldl_append, h]
  rfl

end Sys2Proof.Machine
end

