-- ==== Sys2Proof/WellFormed.lean ====
section
/-! DEFINITION. Which commands are well formed: what can stand as the operands of a row. -/

namespace Sys2Proof

/-- A payload fits the 248 bytes that LEN admits (R144). -/
def payloadFits (p : List Byte) : Bool := decide (p.length ≤ 248)

/-- An order of raises names no axis twice (R119). -/
def orderFits (order : List Axis) : Bool := decide order.Nodup

/-- A TYPE is one the device does not know: neither a request of section 9.4 nor the stream message (R148). -/
def typeUnknown (t : Byte) : Bool := (Machine.requestLength t).isNone && t != 0x40

/-- The operands of a command are such as can reach its row. -/
def Instr.wellFormed (i : Instr) : Bool :=
  match i with
  | .unknownType t _ p => typeUnknown t && payloadFits p
  | .identify _ p => payloadFits p
  | .readStatus _ p => payloadFits p
  | .readAxis _ p => payloadFits p
  | .setDevice _ p => payloadFits p
  | .configureAxis _ p => payloadFits p
  | .setGains _ p => payloadFits p
  | .setReaction _ p => payloadFits p
  | .setMark _ p => payloadFits p
  | .setTelemetry _ p => payloadFits p
  | .arm _ p => payloadFits p
  | .disarm _ p => payloadFits p
  | .stop _ p => payloadFits p
  | .clearFaults _ p => payloadFits p
  | .biasCapture _ p => payloadFits p
  | .driveTest _ p => payloadFits p
  | .reset _ p => payloadFits p
  | .queueSegment _ p => payloadFits p
  | .flush _ p => payloadFits p
  | .headStale order => orderFits order
  | .linkSilence order => orderFits order
  | .busSample _ order => orderFits order
  | .stopLineAssertion order => orderFits order
  | .powerOnReset _ _ => true
  | .linkFrameComplete _ => true
  | .linkFrameGap => true
  | .linkFramingError => true
  | .transmitComplete => true
  | .headSampleFrame _ => true
  | .vehicleSampleFrame _ => true
  | .sensorFrameGap _ => true
  | .vehicleLost => true
  | .settleTimerExpiry => true
  | .shockWindowEnd => true
  | .encoderTransition _ _ _ => true
  | .illegalTransition _ => true
  | .illegalHoldExpiry _ => true
  | .indexEdge _ => true
  | .axisUpdate _ => true
  | .faultRaise _ _ => true
  | .armingTimerExpiry _ => true
  | .engageTimerExpiry _ => true
  | .driveTestEnd _ => true
  | .streamLapse _ => true
  | .frameSyncEdge _ => true
  | .syncLost => true
  | .telemetry => true
  | .pwmBoundary _ => true
  | .currentSample _ _ => true
  | .stopLineRelease => true
  | .linkCharacter _ => true
  | .sensorCharacter _ _ => true
  | .sensorFramingError _ => true

end Sys2Proof
end

