-- ==== Sys2Proof/Safety.lean ====
section
/-! DEFINITION. What counts as a safe state and a safe run, and the words the statements use: invariants of the whole
device, the condition under which a request is processed, and runs of several commands. -/

namespace Sys2Proof.Machine

/-! ### Invariants -/

/-- The link's queues hold no more than their slots: 8 requests, 8 replies, 12 reports of which at most one TELEMETRY,
and the dropped-request count stays in its byte (R146, R148, R151). -/
def State.LinkBounded (s : State) : Prop :=
  s.link.inbound.length ≤ 8 ∧ s.link.replies.length ≤ 8 ∧ s.link.reports.length ≤ 12 ∧
    (s.link.reports.filter Report.isTelemetry).length ≤ 1 ∧ s.link.dropped ≤ 255

/-- The states in which the brake line is released (R110). -/
def Life.brakeFree (l : Life) : Bool :=
  match l with
  | .arming | .tracking | .held => true
  | .stopping _ .decel => true
  | .stopping _ .engage | .disabled | .idle | .faulted => false

/-- Phase ENGAGE has the intent DISARM (R14). -/
def Life.lawful (l : Life) : Bool :=
  match l with
  | .stopping i .engage => i == .disarm
  | _ => true

/-- Each brake line is released exactly in the states of R110. -/
def State.BrakesLawful (s : State) : Prop :=
  ∀ a : Axis, (s.axis a).life.lawful = true ∧ (s.axis a).drive.brakeReleased = (s.axis a).life.brakeFree

/-- The assertion in force and the pause condition agree with the line (R114 to R117). -/
def StopLine.lawful (l : StopLine) : Prop := l.mode.isSome = l.asserted ∧ l.pause = (l.mode == some .pause)

/-- What the drive of an axis may be doing: a test runs only on an IDLE axis; a powered axis has no request but RUN
pending, and is in SHORT while a PAUSE holds it; an unpowered one with no test has no RUN pending, and leaves RUN at
the next boundary (R105, R106, R115). -/
def AxisState.DriveLawful (x : AxisState) (pause : Bool) : Prop :=
  (x.test.running = true → x.life = .idle) ∧
    (x.life.powered = true → x.drive.pending = none ∨ x.drive.pending = some .run) ∧
    (x.life.powered = true → pause = true → x.drive.state = .short) ∧
    (x.life.powered = false → x.test.running = false →
      x.drive.pending ≠ some .run ∧ (x.drive.state = .run → x.drive.pending ≠ none))

/-- The stop line and every drive are as R106 and R115 allow. -/
def State.DrivesLawful (s : State) : Prop :=
  s.stopLine.lawful ∧ ∀ a : Axis, (s.axis a).DriveLawful s.stopLine.pause

/-- No axis queue holds more than 8 segments (R42). -/
def State.QueuesBounded (s : State) : Prop := ∀ a : Axis, (s.axis a).depth ≤ 8

/-- An entry of a fault set: its count in 1..255, its level at or above its kind's lowest (R121, R123, R124). -/
def FaultEntry.lawful (e : FaultEntry) : Prop := 1 ≤ e.count ∧ e.count ≤ 255 ∧ (lowestLevel e.kind).code ≤ e.level.code

/-- No fault set holds two entries of a kind, and no stored level is below its kind's lowest (R121, R123). -/
def State.FaultsLawful (s : State) : Prop :=
  (∀ k : FaultKind, (lowestLevel k).code ≤ (s.reactions.get k).code) ∧
    ∀ a : Axis, ((s.axis a).faults.map (·.kind)).Nodup ∧ ∀ e ∈ (s.axis a).faults, e.lawful

/-- The device settings are in their ranges, with V_cut < V_derate < V_over (R1). -/
def Settings.lawful (x : Settings) : Prop :=
  (50 ≤ x.silence ∧ x.silence ≤ 2000) ∧ (10 ≤ x.stream ∧ x.stream ≤ 500) ∧
    (500 ≤ x.shockThreshold ∧ x.shockThreshold ≤ 16000) ∧ (10 ≤ x.shockWindow ∧ x.shockWindow ≤ 200) ∧
    (50 ≤ x.stillness ∧ x.stillness ≤ 5000) ∧ (100 ≤ x.vDerate ∧ x.vDerate ≤ 600) ∧
    (100 ≤ x.vCut ∧ x.vCut ≤ 600) ∧ (100 ≤ x.vOver ∧ x.vOver ≤ 650) ∧ x.vCut < x.vDerate ∧ x.vDerate < x.vOver

/-- The settings are lawful, and D_bus lies in 0..1000 (R1, R112). -/
def State.SettingsLawful (s : State) : Prop := s.settings.lawful ∧ 0 ≤ s.bus.derate ∧ s.bus.derate ≤ 1000

/-- The group table holds at most four entries, no two of one id (R56). -/
def State.GroupsLawful (s : State) : Prop := s.groups.length ≤ 4 ∧ (s.groups.map (·.id)).Nodup

/-- A DISABLED axis holds the record of kind NONE, zero gains, no staged record, no fault entry and no mark (R5). -/
def State.DisabledBlank (s : State) : Prop :=
  ∀ a : Axis, (s.axis a).life = .disabled →
    (s.axis a).cfg = .zero ∧ (s.axis a).hold = ⟨0, 0, 0⟩ ∧ (s.axis a).move = ⟨0, 0, 0⟩ ∧ (s.axis a).staged = none ∧
      (s.axis a).faults = [] ∧ (s.axis a).marks = .fill none

/-- A safe state: every invariant holds. -/
def State.Safe (s : State) : Prop :=
  s.LinkBounded ∧ s.BrakesLawful ∧ s.DrivesLawful ∧ s.QueuesBounded ∧ s.FaultsLawful ∧ s.SettingsLawful ∧
    s.GroupsLawful ∧ s.DisabledBlank

/-! ### Requests -/

/-- A request can be processed: a reply slot is empty, no RESET is pending, and the request stands at the head of the
inbound queue, or that queue is empty (R148; log entry 11). -/
def State.Admits (s : State) (type : Byte) (tag : Tag) (payload : List Byte) : Prop :=
  s.link.replies.length < 8 ∧ s.link.resetPending = false ∧
    (s.link.inbound = [] ∨ s.link.inbound.head? = some ⟨type, tag, payload⟩)

/-- The state with the reply to a request placed in its slot and the request gone from the inbound queue, the
transmitter taking a frame if it is idle (R148, R152). -/
def State.answered (u : State) (type : Byte) (tag : Tag) (st : Status) (b : ReplyBody) : State :=
  State.startTransmit
    { u with
      link :=
        { u.link with
          inbound := u.link.inbound.drop 1
          replies := u.link.replies ++ [{ type := type, tag := tag, status := st, body := b }] } }

/-! ### Runs -/

/-- Several commands taken one after another, each answering a next state. -/
def runCommands (l : List Instr) (s : State) : Host.Outcome State Fault Refusal :=
  match l with
  | [] => .next s
  | c :: rest =>
    match exec c s with
    | .next t => runCommands rest t
    | .fault r => .fault r
    | .refused r => .refused r

/-- The bytes of a sensor frame before its check byte are completed by the byte that makes their sum 0 (R21). -/
def sensorFrame (body : List Byte) : List Byte := body ++ [-byteSum body]

/-- A head frame of a sequence number and three rates (section 9.10). -/
def headFrame (seq : Byte) (r : Rates) : List Byte := sensorFrame ([0xA5, seq] ++ put32 r.x ++ put32 r.y ++ put32 r.z)

/-- A vehicle frame of a sequence number, three rates and three accelerations (section 9.10). -/
def vehicleFrame (seq : Byte) (r : Rates) (ax ay az : Int) : List Byte :=
  sensorFrame ([0x5A, seq] ++ put32 r.x ++ put32 r.y ++ put32 r.z ++ put16 ax ++ put16 ay ++ put16 az)

/-! ### Frames the device sends -/

/-- A reply was placed: it waits in a reply slot or is the frame being sent (R148, R152). -/
def State.Replies (t : State) (r : Reply) : Prop :=
  r ∈ t.link.replies ∨ t.link.tx.map (·.frame) = some (.reply r)

/-- A report was queued: it waits in a report slot, or is the frame being sent, or was lost for want of room with the
reports-lost flag set (R151, R152). -/
def State.Reports (t : State) (r : Report) : Prop :=
  r ∈ t.link.reports ∨ t.link.tx.map (·.frame) = some (.report r) ∨ t.link.reportsLost = true

/-- An EVENT report of a kind, stamped with a state's time and frame counter, was queued (R164). -/
def State.Events (t s : State) (k : EventKind) : Prop := t.Reports (.event s.time s.sync.frame k)

/-! ### Payloads as a host sends them (section 9.10) -/

/-- The code of a segment kind (section 9.10). -/
def SegKind.code (k : SegKind) : Byte :=
  match k with
  | .hold => 0
  | .rate => 1
  | .goto => 2
  | .stream => 3
  | .home => 4

/-- The start and delay bytes of a start condition (section 9.10). -/
def Start.bytes (st : Start) : List Byte :=
  match st with
  | .immediate => [0, 0]
  | .sync d => [1, BitVec.ofNat 8 d]

/-- The payload of a QUEUE_SEGMENT that carries a segment record for an axis number. -/
def segmentPayload (axis : Byte) (c : CarriedSegment) : List Byte :=
  [axis] ++ bytesOf16 c.tag ++ [c.kind.code, flagByte [c.value.isSome, c.cap.isSome]] ++ put32 (c.value.getD 0) ++
    put32 (c.cap.getD 0) ++ put32 c.accel ++ put32 c.duration ++ c.start.bytes ++ putNat8 c.group ++ [c.members] ++
    putBool c.notify

/-- A number fits four signed bytes. -/
def fitsS32 (x : Int) : Prop := -2147483648 ≤ x ∧ x ≤ 2147483647

/-- A number fits two unsigned bytes. -/
def fitsU16 (x : Int) : Prop := 0 ≤ x ∧ x ≤ 65535

/-- A number fits two signed bytes. -/
def fitsS16 (x : Int) : Prop := -32768 ≤ x ∧ x ≤ 32767

/-- The fields of a carried segment fit their bytes, with a delay and a group in 0..15, and, for a group other than 0,
a member mask of four bits (R44). -/
def CarriedSegment.fits (c : CarriedSegment) : Prop :=
  (∀ v ∈ c.value, fitsS32 v) ∧ (∀ v ∈ c.cap, fitsS32 v) ∧ fitsS32 c.accel ∧ fitsS32 c.duration ∧
    (∀ d, c.start = .sync d → d ≤ 15) ∧ c.group ≤ 15 ∧ (c.group ≠ 0 → c.members.toNat ≤ 15)

/-- The numeric fields of a configuration record fit their bytes (R157). -/
def AxisRecord.fits (r : AxisRecord) : Prop :=
  (fitsU16 r.period ∧ fitsU16 r.num ∧ fitsU16 r.den ∧ fitsU16 r.margin ∧ fitsU16 r.window ∧ fitsU16 r.trackTime ∧
      fitsU16 r.torque ∧ fitsU16 r.slew ∧ fitsU16 r.satTime ∧ fitsU16 r.trip ∧ fitsU16 r.deadTime ∧
      fitsU16 r.releaseTime ∧ fitsU16 r.engageTime ∧ fitsU16 r.ffGain) ∧
    (fitsS32 r.indexRef ∧ fitsS32 r.limMin ∧ fitsS32 r.limMax ∧ fitsS32 r.rateLimit ∧ fitsS32 r.accelLimit ∧
      fitsS32 r.errClamp ∧ fitsS32 r.trackLimit) ∧ fitsS16 r.bias ∧ (0 ≤ r.tap ∧ r.tap ≤ 255)

/-- The rate of the last entry of a stream message for an axis (R63). -/
def lastRate (es : List (Byte × Int)) (a : Axis) : Option Int :=
  (es.reverse.find? fun e => e.1.toNat == a.val).map (·.2)

/-! ### Times, angles, and updates that raise nothing -/

/-- A running timer has reached its length: (time base - start) modulo 2^32 is at least it (R134). -/
def State.TimeUp (s : State) (t : Option Timer) : Prop := ∃ r, t = some r ∧ r.len ≤ (s.time - r.start).toNat

/-- The joint angle of the input that the record of an axis names: floor(count × num / den), for a record that names an
input (R30). -/
def State.JointAngle (s : State) (a : Axis) (theta : Int) : Prop :=
  ∀ i : Input, (s.axis a).cfg.encoder.toNat = i.val →
    theta = Int.fdiv ((s.encoders.get i).count.toInt * (s.axis a).cfg.num) (s.axis a).cfg.den

/-- What θm of an axis reads outside its updates: 0 on a DISABLED axis, that of its last update in a powered state, and
otherwise the joint angle of the count of now or the inertial angle held (R30, R32, R33, R160, R163). -/
def State.ReportsAngle (s : State) (a : Axis) (theta : Int) : Prop :=
  match (s.axis a).life with
  | .disabled => theta = 0
  | .idle | .faulted =>
    ((s.axis a).cfg.kind = .joint → s.JointAngle a theta) ∧
      ((s.axis a).cfg.kind ≠ .joint → theta = (s.axis a).meas.inertial)
  | _ => theta = (s.axis a).meas.theta

/-- The stale check of an update raises nothing: the axis is not INERTIAL, or its head sample is fresh, or its SENSOR_STALL
is present already (R24). -/
def State.StallQuiet (s : State) (a : Axis) : Prop :=
  (s.axis a).cfg.kind = .inertial → s.head.stale = true → hasPresent (s.axis a).faults .sensorStall = true

/-- No watch of an update can raise: one more period leaves both timers short of their full values, and a joint angle that
the overrun check would look at lies within the widened limits (R95, R96, R97). -/
def State.WatchesQuiet (s : State) (a : Axis) : Prop :=
  let x := s.axis a
  0 < x.cfg.trackTime ∧ x.loop.trackTimer + x.cfg.period < x.cfg.trackTime * 1000 ∧ 0 < x.cfg.satTime ∧
    x.loop.satTimer + x.cfg.period < x.cfg.satTime * 1000 ∧
    ∀ i : Input, x.cfg.encoder.toNat = i.val → (s.encoders.get i).homed = true →
      let j := Int.fdiv ((s.encoders.get i).count.toInt * x.cfg.num) x.cfg.den
      x.cfg.limMin - x.cfg.margin ≤ j ∧ j ≤ x.cfg.limMax + x.cfg.margin

/-! ### Reset -/

/-- An axis right after a reset (R20, R41, R67, R71, R101, R118, R132, R143). -/
def AxisState.IsReset (x : AxisState) : Prop :=
  (x.life = .disabled ∧ x.cfg.kind = .none ∧ x.cfg = .zero ∧ x.hold = ⟨0, 0, 0⟩ ∧ x.move = ⟨0, 0, 0⟩ ∧
      x.staged = none ∧ x.armingTimer = none ∧ x.engageTimer = none ∧ x.updateTimer = none ∧
      x.test.running = false) ∧
    (x.active = none ∧ x.waiting = [] ∧ x.counting = none ∧ x.stream.rate = 0 ∧ x.stream.arrival = none ∧
      x.stream.aged = true ∧ x.stream.timer = none ∧ x.stream.lapse = .clear) ∧
    (x.meas.theta = 0 ∧ x.meas.omega = 0 ∧ x.meas.inertial = 0 ∧ x.meas.inertialRem = 0 ∧
      x.meas.history = [0, 0, 0, 0, 0] ∧ x.meas.reloadPending = false) ∧
    (x.gen.theta = 0 ∧ x.gen.omega = 0 ∧ x.gen.rem = 0 ∧ x.gen.target = 0 ∧ x.gen.moving = false ∧
      x.gen.homeStart = none ∧ x.gen.latch = none) ∧
    (x.loop.integ = 0 ∧ x.loop.uPrev = 0 ∧ x.loop.uOut = 0 ∧ x.loop.line = List.replicate 16 0 ∧
      x.loop.trackTimer = 0 ∧ x.loop.satTimer = 0 ∧ x.loop.saturated = false ∧ x.loop.moveSet = false ∧
      x.loop.paused = false ∧ x.loop.overrun = .notChecked) ∧
    (x.drive.state = .open ∧ x.drive.pending = none ∧ x.drive.handed = 0 ∧ x.drive.duty = 0 ∧
      x.drive.lastCurrent = 0 ∧ x.drive.brakeReleased = false) ∧
    x.faults = [] ∧ x.marks = .fill none ∧ x.markSkip = false

/-- What either reset leaves of the blocks beside the axes, but for what a soft reset keeps (R2, R41, R67, R118, R121,
R133, R138, R155). -/
def State.IsReset (s : State) : Prop :=
  (∀ a : Axis, (s.axis a).IsReset) ∧ s.groups = [] ∧
    s.settings =
      { silence := 250, stream := 50, stopMode := .latch, edge := .rising, shockThreshold := 3000, shockWindow := 40
        stillness := 500, vDerate := 440, vCut := 360, vOver := 560 } ∧
    (s.head.rates = ⟨0, 0, 0⟩ ∧ s.head.stale = true ∧ s.head.seq = none ∧ s.headPort.bytes = []) ∧
    (s.vehicle.rates = ⟨0, 0, 0⟩ ∧ s.vehicle.accelZ = 0 ∧ s.vehicle.stale = true ∧ s.vehicle.seq = none ∧
      s.vehiclePort.bytes = []) ∧
    (s.bias.activity = none ∧ s.bias.sums = ⟨0, 0, 0⟩ ∧ s.bias.count = 0 ∧ s.bias.settle = none ∧
      s.shock.active = false) ∧
    (∀ i : Input, (s.encoders.get i).armed = false ∧ (s.encoders.get i).hold = none) ∧
    s.reactions =
      { overcurrent := .open, sensorStall := .brake, tracking := .stop, saturation := .note, limitOverrun := .brake
        busUndervolt := .brake, busOvervolt := .brake, linkSilence := .stop, stopLine := .brake
        encoderFault := .brake } ∧
    (s.bus.voltage = 0 ∧ s.bus.derate = 0 ∧ s.bus.sampled = false ∧ s.bus.undervolt = false ∧
      s.bus.overvolt = false ∧ s.bus.timer = some ⟨0, 1000⟩) ∧
    (s.stopLine.pause = false ∧ s.stopLine.mode = if s.stopLine.asserted then some .latch else none) ∧
    (s.time = 0 ∧ s.sync.frame = 0 ∧ s.sync.lastEdge = none ∧ s.sync.present = false ∧ s.sync.lossTimer = none) ∧
    (s.link.framer.state = .hunt ∧ s.link.inbound = [] ∧ s.link.replies = [] ∧ s.link.reports = [] ∧
      s.link.tx = none ∧ s.link.dropped = 0 ∧ s.link.reportsLost = false ∧ s.link.silence = some ⟨0, 250000⟩ ∧
      s.link.resetPending = false ∧ s.link.telemetryCode = 0 ∧ s.link.telemetryMask = 0 ∧
      s.link.telemetryTimer = none)

/-- What a power-on reset sets beside that (R41). -/
def State.IsPoweredOn (s : State) : Prop :=
  s.IsReset ∧ s.bias.bias = ⟨0, 0, 0⟩ ∧ s.bias.validity = .invalid ∧ s.pwmPhase = 0 ∧
    ∀ i : Input, (s.encoders.get i).count = 0 ∧ (s.encoders.get i).homed = false

end Sys2Proof.Machine
end

