-- ==== Sys2Proof/Certificates/Slice0/Obligations.lean ====
section
/-! DEFINITION. The statements about the KG440, each naming the rules of the manual it formalises. -/

open Sys2Proof Sys2Proof.Machine

/-! ### The step, reset and the invariants -/

/-- A step takes the command at the front of the queue and runs it on the state with the queue's rest.  The queue of
waiting commands, and that a step takes its front, are the model's choice (log entry 6). -/
def Obligations.StepRunsFrontCommand : Prop :=
  ∀ (s : State) (c : Instr) (rest : List Instr),
    s.pending = c :: rest → step s = exec c { s with pending := rest }

/-- A step with no command waiting is the device's own clock, which is the model's choice (log entry 6).  With no event
due, one microsecond passes: the time base counts on (R133) and the PWM period moves on, its boundary and its centre
falling at their instants (R102).  With events due, the step takes one of them.  Due are the request at the head of the
inbound queue that can be processed (R148), the end of the frame being sent (R152), the gap of a frame in progress (R21,
R144; that of a sensor port after more than 50 µs, log entry 21), a sample that has become stale (R24, R25), every
timer that has reached its length (R134), the end times of a shock and of a drive test (R19, R39), the boundary and the
centre of a PWM period (R102), and every raise that waits (R119). -/
def Obligations.EmptyQueuePassesOneMicrosecond : Prop :=
  ∀ s : State, s.pending = [] →
    (s.dueEvents = [] →
      ∃ t, step s = .next t ∧ t.time = s.time + 1 ∧ t.pwmPhase = (s.pwmPhase + 1) % 50 ∧
        (∀ a : Axis, t.axis a =
          { s.axis a with
            drive :=
              { (s.axis a).drive with
                boundaryDue := decide (t.pwmPhase = 0)
                centreDue := decide (t.pwmPhase = 25) } }) ∧
        { t with time := s.time, pwmPhase := s.pwmPhase, axes := s.axes } = s) ∧
    (s.dueEvents ≠ [] → ∃ c ∈ s.dueEvents, step s = exec c { s with freeCount := s.freeCount + 1 }) ∧
    (∀ r : Request, s.link.inbound.head? = some r → s.Admits r.type r.tag r.payload →
      commandOf r ∈ s.dueEvents) ∧
    (Instr.transmitComplete ∈ s.dueEvents ↔
      ∃ x, s.link.tx = some x ∧ x.frame.sendTime ≤ (s.time - x.start).toNat) ∧
    (Instr.linkFrameGap ∈ s.dueEvents ↔
      s.link.framer.state ≠ .hunt ∧ 2000 ≤ (s.time - s.link.framer.lastTime).toNat) ∧
    ((∃ order, Instr.linkSilence order ∈ s.dueEvents) ↔ s.TimeUp s.link.silence) ∧
    (Instr.telemetry ∈ s.dueEvents ↔ s.TimeUp s.link.telemetryTimer) ∧
    (∀ p : SensorPort, Instr.sensorFrameGap p ∈ s.dueEvents ↔
      (s.port p).bytes ≠ [] ∧ 50 < (s.time - (s.port p).lastTime).toNat) ∧
    ((∃ order, Instr.headStale order ∈ s.dueEvents) ↔
      s.head.stale = false ∧ 2000 ≤ (s.time - s.head.arrival).toNat) ∧
    (Instr.vehicleLost ∈ s.dueEvents ↔ s.vehicle.stale = false ∧ 20000 ≤ (s.time - s.vehicle.arrival).toNat) ∧
    (Instr.settleTimerExpiry ∈ s.dueEvents ↔ s.TimeUp s.bias.settle) ∧
    (Instr.shockWindowEnd ∈ s.dueEvents ↔ s.shock.active = true ∧ s.time = s.shock.windowEnd) ∧
    (∀ i : Input, Instr.illegalHoldExpiry i ∈ s.dueEvents ↔ s.TimeUp (s.encoders.get i).hold) ∧
    (Instr.syncLost ∈ s.dueEvents ↔ s.TimeUp s.sync.lossTimer) ∧
    ((∃ reading order, Instr.busSample reading order ∈ s.dueEvents) ↔ s.TimeUp s.bus.timer) ∧
    ((∃ a, Instr.pwmBoundary a ∈ s.dueEvents) ↔ ∃ a : Axis, (s.axis a).drive.boundaryDue = true) ∧
    ∀ a : Axis,
      (Instr.pwmBoundary a ∈ s.dueEvents → (s.axis a).drive.boundaryDue = true) ∧
      ((∃ reading, Instr.currentSample a reading ∈ s.dueEvents) ↔
        (s.axis a).drive.centreDue = true ∧ (s.axis a).drive.state = .run) ∧
      (Instr.axisUpdate a ∈ s.dueEvents ↔ (s.axis a).life.powered = true ∧ s.TimeUp (s.axis a).updateTimer) ∧
      (Instr.armingTimerExpiry a ∈ s.dueEvents ↔ (s.axis a).life = .arming ∧ s.TimeUp (s.axis a).armingTimer) ∧
      (Instr.engageTimerExpiry a ∈ s.dueEvents ↔
        (s.axis a).life = .stopping .disarm .engage ∧ s.TimeUp (s.axis a).engageTimer) ∧
      (Instr.driveTestEnd a ∈ s.dueEvents ↔ (s.axis a).test.running = true ∧ s.time = (s.axis a).test.endTime) ∧
      (Instr.streamLapse a ∈ s.dueEvents ↔ s.TimeUp (s.axis a).stream.timer) ∧
      ∀ k : FaultKind, Instr.faultRaise a k ∈ s.dueEvents ↔ (a, k) ∈ s.owed

/-- The state right after reset holds the values the manual gives for a power-on reset, in every block.  That STOP_N is
released and FSYNC low there is the model's choice (log entry 1), and so is the empty queue of commands (log entry 6). -/
def Obligations.ResetHoldsPowerOnValues : Prop :=
  State.reset.IsPoweredOn ∧ State.reset.stopLine.asserted = false ∧ State.reset.sync.level = false ∧
    State.reset.pending = []

/-- The state right after reset meets every invariant. -/
def Obligations.ResetIsSafe : Prop := State.reset.Safe

/-- Every step keeps the link's queues within their slots, with at most one TELEMETRY report waiting (R146, R148,
R151). -/
def Obligations.StepKeepsLinkBounded : Prop :=
  ∀ s t : State, s.LinkBounded → step s = .next t → t.LinkBounded

/-- Every step keeps each brake line released exactly in ARMING, TRACKING, HELD and STOPPING in phase DECEL (R110). -/
def Obligations.StepKeepsBrakesLawful : Prop :=
  ∀ s t : State, s.BrakesLawful → step s = .next t → t.BrakesLawful

/-- Every step keeps the drives lawful (R105, R106, R115): a test runs only on an IDLE axis, a paused axis is in SHORT,
an unpowered axis with no test is on its way out of RUN. -/
def Obligations.StepKeepsDrivesLawful : Prop :=
  ∀ s t : State, s.DrivesLawful → step s = .next t → t.DrivesLawful

/-- Every step keeps each axis queue at 8 segments or fewer, the active one included (R42). -/
def Obligations.StepKeepsQueuesBounded : Prop :=
  ∀ s t : State, s.QueuesBounded → step s = .next t → t.QueuesBounded

/-- Every step keeps the fault sets lawful: one entry per kind, counts within 1..255, no level below its kind's lowest
(R121, R123, R124). -/
def Obligations.StepKeepsFaultsLawful : Prop :=
  ∀ s t : State, s.FaultsLawful → step s = .next t → t.FaultsLawful

/-- Every step keeps the settings in their ranges with V_cut < V_derate < V_over, and D_bus in 0..1000 (R1, R112). -/
def Obligations.StepKeepsSettingsLawful : Prop :=
  ∀ s t : State, s.SettingsLawful → step s = .next t → t.SettingsLawful

/-- Every step keeps the group table at four open entries or fewer, no two of one id (R56). -/
def Obligations.StepKeepsGroupsLawful : Prop :=
  ∀ s t : State, s.GroupsLawful → step s = .next t → t.GroupsLawful

/-- Every step keeps a DISABLED axis blank: kind NONE with every field zero, no gains, no fault entry, no mark (R5). -/
def Obligations.StepKeepsDisabledBlank : Prop :=
  ∀ s t : State, s.DisabledBlank → step s = .next t → t.DisabledBlank

/-- Every command completes, and no command touches the queue of waiting commands or the count of free choices, which are
the model's own (log entry 6). -/
def Obligations.EveryCommandKeepsTheQueue : Prop :=
  ∀ (c : Instr) (s : State),
    ∃ t, exec c s = .next t ∧ t.pending = s.pending ∧ t.freeCount = s.freeCount

/-- An update or a raise of one axis leaves of every other axis the life-cycle state, record, drive, test, fault set, loop,
measurement, marks, and the setpoint's angle, remainder and rate as they were; and of the device the settings, the reaction
table, the bus, the stop line, the sync, the time base, both sensor samples, the bias unit, the shock, the inbound queue and
the silence timer (R68, R69, R119).  It says nothing of the rest: where a segment of the axis ends or starts, a group may
break or fire, which may change the group table and, of other axes, the queue, the gains, the stream context, and with a
HOME the start angle and the capture armed flag of its encoder input; the outbound queue and the waiting raises may change
too. -/
def Obligations.AxisEventsLeaveOtherAxes : Prop :=
  ∀ (s t : State) (a : Axis),
    (exec (.axisUpdate a) s = .next t ∨ ∃ k, exec (.faultRaise a k) s = .next t) →
      (∀ b : Axis, b ≠ a →
        (t.axis b).life = (s.axis b).life ∧ (t.axis b).cfg = (s.axis b).cfg ∧ (t.axis b).drive = (s.axis b).drive ∧
          (t.axis b).test = (s.axis b).test ∧ (t.axis b).faults = (s.axis b).faults ∧
          (t.axis b).loop = (s.axis b).loop ∧ (t.axis b).meas = (s.axis b).meas ∧
          (t.axis b).marks = (s.axis b).marks ∧ (t.axis b).gen.theta = (s.axis b).gen.theta ∧
          (t.axis b).gen.rem = (s.axis b).gen.rem ∧ (t.axis b).gen.omega = (s.axis b).gen.omega) ∧
      t.settings = s.settings ∧ t.reactions = s.reactions ∧ t.bus = s.bus ∧ t.stopLine = s.stopLine ∧
      t.sync = s.sync ∧ t.time = s.time ∧ t.head = s.head ∧ t.vehicle = s.vehicle ∧ t.bias = s.bias ∧
      t.shock = s.shock ∧ t.link.inbound = s.link.inbound ∧ t.link.silence = s.link.silence

/-! ### What is sent is what is read -/

/-- A link frame sent character by character to a hunting framer is read as the request it carries: its TYPE, TAG and
payload join the inbound queue, the silence timer restarts, and the framer hunts again (R144, R145, R146). -/
def Obligations.LinkFrameIsReadAsSent : Prop :=
  ∀ (s : State) (type : Byte) (tag : Tag) (payload : List Byte),
    type ≠ 0x40 → payload.length ≤ 248 → s.link.framer.state = .hunt → s.link.inbound.length < 8 →
      ∃ t,
        runCommands
            ((linkFrame type tag payload).dropLast.map Instr.linkCharacter ++
              [.linkFrameComplete ((linkFrame type tag payload).getLastD 0)]) s = .next t ∧
          t.link.inbound = s.link.inbound ++ [⟨type, tag, payload⟩] ∧ t.link.framer.state = .hunt ∧
          t.link.silence = some ⟨s.time, s.settings.silence.toNat * 1000⟩

/-- A head frame and a vehicle frame sent character by character to a hunting port are read as the rates they carry,
within ±1,500,000 mdeg/s (R21, R22, R23). -/
def Obligations.SensorFramesAreReadAsSent : Prop :=
  ∀ (s : State) (seq : Byte) (r : Rates) (ax ay az : Int),
    (magnitude r.x ≤ 1500000 ∧ magnitude r.y ≤ 1500000 ∧ magnitude r.z ≤ 1500000) → fitsS16 az →
      (s.headPort.bytes = [] → s.head.seq ≠ some seq →
        ∃ t,
          runCommands
              ((headFrame seq r).dropLast.map (Instr.sensorCharacter .head) ++
                [.headSampleFrame ((headFrame seq r).getLastD 0)]) s = .next t ∧
            t.head = { seq := some seq, rates := r, arrival := s.time, stale := false } ∧ t.headPort.bytes = []) ∧
      (s.vehiclePort.bytes = [] → s.vehicle.seq ≠ some seq →
        ∃ t,
          runCommands
              ((vehicleFrame seq r ax ay az).dropLast.map (Instr.sensorCharacter .vehicle) ++
                [.vehicleSampleFrame ((vehicleFrame seq r ax ay az).getLastD 0)]) s = .next t ∧
            t.vehicle = { seq := some seq, rates := r, accelZ := az, arrival := s.time, stale := false } ∧
            t.vehiclePort.bytes = [])

/-- The payloads of QUEUE_SEGMENT and CONFIGURE_AXIS are read as the records they carry, every field at every value its
bytes hold, accel and duration signed like value and cap (R156, R157).  That a code which no test judges is kept as carried
is the model's choice (log entry 7). -/
def Obligations.RecordPayloadsAreReadAsCarried : Prop :=
  (∀ (axis : Byte) (c : CarriedSegment), c.fits →
    (segmentPayload axis c).length = 26 ∧ byteAt (segmentPayload axis c) 0 = axis ∧
      readSegment (segmentPayload axis c) = some c) ∧
    ∀ (axis : Byte) (r : AxisRecord), r.fits →
      (axis :: r.bytes).length = 67 ∧ byteAt (axis :: r.bytes) 0 = axis ∧
        kindOfByte (byteAt (axis :: r.bytes) 1) = some r.kind ∧ readRecord (axis :: r.bytes) r.kind = r

/-! ### Reset and the link -/

/-- POWER_ON_RESET: every block takes its power-on values; STOP_N and FSYNC are sampled, a low STOP_N being an assertion
in mode LATCH (R20, R41, R114, R118, R135, R138, R155).  That the waiting commands and the levels of the encoder phases
stand through it is the model's choice (log entry 37). -/
def Obligations.PowerOnResetTakesPowerOnValues : Prop :=
  ∀ (low high : Bool) (s : State),
    ∃ t, exec (.powerOnReset low high) s = .next t ∧ t.IsPoweredOn ∧ t.stopLine.asserted = low ∧
      t.sync.level = high ∧ t.pending = s.pending ∧
      ∀ i : Input, (t.encoders.get i).phaseA = (s.encoders.get i).phaseA ∧
        (t.encoders.get i).phaseB = (s.encoders.get i).phaseB

/-- LINK_FRAME_COMPLETE with the second CRC byte of a valid request frame: the silence timer restarts and the
LINK_SILENCE flags clear on every axis; the request joins the inbound queue, or is dropped and counted where the queue
holds 8 (R145, R146). -/
def Obligations.ValidRequestFrameIsQueuedOrDropped : Prop :=
  ∀ (s : State) (type : Byte) (tag : Tag) (payload : List Byte) (c : Byte),
    type ≠ 0x40 → payload.length ≤ 248 → s.link.framer.state = .check →
      s.link.framer.bytes ++ [c] = (linkFrame type tag payload).drop 1 →
        ∃ t, exec (.linkFrameComplete c) s = .next t ∧
          t.link.inbound =
            (if s.link.inbound.length < 8 then s.link.inbound ++ [⟨type, tag, payload⟩] else s.link.inbound) ∧
          t.link.dropped =
            (if s.link.inbound.length < 8 then s.link.dropped
            else if s.link.dropped < 255 then s.link.dropped + 1 else s.link.dropped) ∧
          t.link.silence = some ⟨s.time, s.settings.silence.toNat * 1000⟩ ∧ t.link.framer.state = .hunt ∧
          t.link.resetPending = s.link.resetPending ∧
          (∀ a : Axis, t.axis a =
            { s.axis a with
              faults :=
                (s.axis a).faults.map fun e => if e.kind = .linkSilence then { e with present := false } else e }) ∧
          { t with axes := s.axes, link := s.link } = s

/-- LINK_FRAME_COMPLETE with the second CRC byte of a stream message, which is taken ahead of the inbound queue.  A
message of 1 to 4 entries is applied: the last entry for each configured axis is stored clamped to ±Ω_max with its timer
restarted, and a lapsed STREAM segment is resumed with EVENT STREAM_RESUMED; a DISABLED axis and an entry whose axis
number is above 3 are ignored.  A message of another count or length is discarded: it restarts the silence timer, ends the
LINK_SILENCE condition, and nothing else (R63, R146, R147). -/
def Obligations.StreamMessageStoresRates : Prop :=
  (∀ (s : State) (tag : Tag) (es : List (Byte × Int)) (c : Byte),
    1 ≤ es.length → es.length ≤ 4 → (∀ e ∈ es, fitsS32 e.2) → s.link.framer.state = .check →
      s.link.framer.bytes ++ [c] =
          (linkFrame 0x40 tag (putNat8 es.length ++ es.flatMap fun e => [e.1] ++ put32 e.2)).drop 1 →
        ∃ t, exec (.linkFrameComplete c) s = .next t ∧ t.link.inbound = s.link.inbound ∧
          t.link.silence = some ⟨s.time, s.settings.silence.toNat * 1000⟩ ∧
          ∀ a : Axis,
            (t.axis a).waiting = (s.axis a).waiting ∧ (t.axis a).life = (s.axis a).life ∧
              (t.axis a).drive = (s.axis a).drive ∧
              match lastRate es a with
              | none => (t.axis a).stream = (s.axis a).stream
              | some rate =>
                if (s.axis a).life = .disabled then (t.axis a).stream = (s.axis a).stream
                else
                  ((t.axis a).stream =
                    { rate := clamp rate (-(s.axis a).cfg.rateLimit) (s.axis a).cfg.rateLimit
                      arrival := some s.time
                      aged := false
                      timer := some ⟨s.time, s.settings.stream.toNat * 1000⟩
                      lapse :=
                        if (s.axis a).streamTag.isSome ∧ (s.axis a).stream.lapse = .lapsed then .live
                        else (s.axis a).stream.lapse }) ∧
                    ∀ u : Tag, (s.axis a).streamTag = some u → (s.axis a).stream.lapse = .lapsed →
                      t.Events s (.streamResumed a u)) ∧
  ∀ (s : State) (tag : Tag) (p : List Byte) (c : Byte), p.length ≤ 248 →
    ¬(1 ≤ (byteAt p 0).toNat ∧ (byteAt p 0).toNat ≤ 4 ∧ p.length = 1 + 5 * (byteAt p 0).toNat) →
      s.link.framer.state = .check → s.link.framer.bytes ++ [c] = (linkFrame 0x40 tag p).drop 1 →
        ∃ t, exec (.linkFrameComplete c) s = .next t ∧ t.link.inbound = s.link.inbound ∧
          t.link.dropped = s.link.dropped ∧ t.link.silence = some ⟨s.time, s.settings.silence.toNat * 1000⟩ ∧
          t.link.framer.state = .hunt ∧
          (∀ a : Axis, t.axis a =
            { s.axis a with
              faults :=
                (s.axis a).faults.map fun e => if e.kind = .linkSilence then { e with present := false } else e }) ∧
          { t with axes := s.axes, link := s.link } = s

/-- LINK_FRAME_GAP, LINK_FRAMING_ERROR, SENSOR_FRAME_GAP and SENSOR_FRAMING_ERROR: the frame in progress is abandoned
and the framer or the port hunts again; nothing else changes (R21, R144). -/
def Obligations.AbandonedFramesLeaveNothing : Prop :=
  ∀ s : State,
    (s.link.framer.state ≠ .hunt →
      exec .linkFrameGap s =
        .next { s with link := { s.link with framer := { s.link.framer with state := .hunt, bytes := [] } } }) ∧
    exec .linkFramingError s =
      .next { s with link := { s.link with framer := { s.link.framer with state := .hunt, bytes := [] } } } ∧
    exec (.sensorFrameGap .head) s = .next { s with headPort := { s.headPort with bytes := [] } } ∧
    exec (.sensorFrameGap .vehicle) s = .next { s with vehiclePort := { s.vehiclePort with bytes := [] } } ∧
    exec (.sensorFramingError .head) s = .next { s with headPort := { s.headPort with bytes := [] } } ∧
    exec (.sensorFramingError .vehicle) s = .next { s with vehiclePort := { s.vehiclePort with bytes := [] } }

/-- LINK_CHARACTER: the framer moves through HUNT, HEADER, PAYLOAD and CHECK as the characters of a frame arrive, and a
LEN above 248 abandons the frame; a complete frame whose CRC is wrong is discarded without effect.  The idle
transmitter takes a waiting frame, and nothing else changes (R144, R145, R152). -/
def Obligations.LinkCharacterMovesTheFramer : Prop :=
  ∀ (s : State) (c : Byte),
    let f := s.link.framer
    let after (st : FramerState) (b : List Byte) : State :=
      State.startTransmit { s with link := { s.link with framer := { state := st, bytes := b, lastTime := s.time } } }
    (f.state = .hunt → c = 0xC3 → exec (.linkCharacter c) s = .next (after .header [])) ∧
    (f.state = .hunt → c ≠ 0xC3 → exec (.linkCharacter c) s = .next s.startTransmit) ∧
    (f.state = .header → f.bytes = [] → 248 < c.toNat → exec (.linkCharacter c) s = .next (after .hunt [])) ∧
    (f.state = .header → f.bytes = [] → c.toNat ≤ 248 → exec (.linkCharacter c) s = .next (after .header [c])) ∧
    (f.state = .header → 1 ≤ f.bytes.length → f.bytes.length < 3 →
      exec (.linkCharacter c) s = .next (after .header (f.bytes ++ [c]))) ∧
    (f.state = .header → f.bytes.length = 3 →
      exec (.linkCharacter c) s =
        .next (after (if f.bytes.headD 0 = 0 then .check else .payload) (f.bytes ++ [c]))) ∧
    (f.state = .payload →
      exec (.linkCharacter c) s =
        .next
          (after (if f.bytes.length + 1 < 4 + (f.bytes.headD 0).toNat then .payload else .check) (f.bytes ++ [c]))) ∧
    (f.state = .check → f.bytes.length + 1 < 6 + (f.bytes.headD 0).toNat →
      exec (.linkCharacter c) s = .next (after .check (f.bytes ++ [c]))) ∧
    (f.state = .check → f.bytes.length + 1 = 6 + (f.bytes.headD 0).toNat →
      bytesOf16 (crc16 (f.bytes.take (f.bytes.length - 1))) ≠ [c, f.bytes.getLastD 0] →
        exec (.linkFrameComplete c) s = .next (after .hunt []))

/-- A request whose TYPE the device does not know is answered UNKNOWN_TYPE, and one of any of the eighteen known TYPEs
with a wrong LEN is answered BAD_LENGTH, the status byte alone, with no other change (R148, R149). -/
def Obligations.RefusedRequestsAreAnsweredAlone : Prop :=
  ∀ (s : State) (type : Byte) (tag : Tag) (p : List Byte), s.Admits type tag p →
    (typeUnknown type = true →
      exec (.unknownType type tag p) s = .next (s.answered type tag .unknownType .alone)) ∧
    (∀ n, requestLength type = some n → p.length ≠ n →
      exec (commandOf ⟨type, tag, p⟩) s = .next (s.answered type tag .badLength .alone))

/-! ### Requests -/

/-- IDENTIFY is answered OK with the fixed values, in every state, and changes nothing else (R161).  How many bytes each
value takes is read from the tables by inference (log entry 18). -/
def Obligations.IdentifyAnswersFixedValues : Prop :=
  ∀ (s : State) (tag : Tag), s.Admits 0x01 tag [] →
    exec (.identify tag []) s = .next (s.answered 0x01 tag .ok .identity) ∧
      ReplyBody.identity.bytes = [0x56] ++ bytesOf16 0x0440 ++ [3, 4, 8, 4, 4]

/-- READ_STATUS is answered OK with the device's status as it stands, and then the dropped-request count becomes 0 and
the reports-lost flag clear; nothing else changes (R158, R159). -/
def Obligations.ReadStatusReportsAndClears : Prop :=
  ∀ (s : State) (tag : Tag), s.Admits 0x02 tag [] →
    ∃ v : DeviceStatus,
      exec (.readStatus tag []) s =
        .next
          (State.answered { s with link := { s.link with dropped := 0, reportsLost := false } } 0x02 tag .ok
            (.deviceStatus v)) ∧
        v.time = s.time ∧ v.stopAsserted = s.stopLine.asserted ∧ v.storedMode = s.settings.stopMode ∧
        v.modeInForce = s.stopLine.mode ∧ v.validity = s.bias.validity ∧ v.activity = s.bias.activity ∧
        v.headPresent = !s.head.stale ∧ v.vehiclePresent = !s.vehicle.stale ∧ v.syncPresent = s.sync.present ∧
        v.shock = s.shock.active ∧ v.voltage = s.bus.voltage ∧ v.derate = s.bus.derate ∧
        v.dropped = s.link.dropped ∧ v.reportsLost = s.link.reportsLost ∧
        v.axes =
          [0, 1, 2, 3].map fun a : Axis =>
            { life := (s.axis a).life
              homed := (s.axis a).input.map fun i => (s.encoders.get i).homed
              faults := (s.axis a).faults.map fun e => (e.kind, e.count)
              effective := effectiveLevel (s.axis a).faults
              depth := (s.axis a).waiting.length + if (s.axis a).active.isSome then 1 else 0
              activeTag := (s.axis a).active.map fun c => c.seg.tag }

/-- READ_AXIS of an axis number 0..3 is answered OK with the axis's record, gains, marks, fault entries and loop,
generator and measured values, the measured angle being 0 when DISABLED, that of the last update when powered, and the
joint angle of now or the inertial angle otherwise; a number above 3 is answered BAD_ARG.  Nothing else changes (R30,
R33, R160). -/
def Obligations.ReadAxisReportsTheAxis : Prop :=
  ∀ (s : State) (tag : Tag) (b : Byte), s.Admits 0x03 tag [b] →
    (3 < b.toNat → exec (.readAxis tag [b]) s = .next (s.answered 0x03 tag .badArg .alone)) ∧
    ∀ a : Axis, b.toNat = a.val →
      ∃ theta, s.ReportsAngle a theta ∧
        exec (.readAxis tag [b]) s =
          .next
            (s.answered 0x03 tag .ok
              (.axisDetail
                { axis := a
                  cfg := (s.axis a).cfg
                  hold := (s.axis a).hold
                  move := (s.axis a).move
                  stagedFlag := (s.axis a).staged.isSome
                  marks := (s.axis a).marks
                  faults := (s.axis a).faults
                  integ := (s.axis a).loop.integ
                  uPrev := (s.axis a).loop.uPrev
                  thetaS := (s.axis a).gen.theta
                  rem := (s.axis a).gen.rem
                  omegaS := (s.axis a).gen.omega
                  thetaM := theta }))

/-- SET_DEVICE: with any axis other than DISABLED or IDLE, BAD_STATE; with a code outside its list, or thresholds that
are not V_cut < V_derate < V_over after clamping, BAD_ARG; else the ten settings are stored together, each clamped to
its range, CLAMPED when that changed one, and a change to OFF with sync present makes sync absent (R1, R135). -/
def Obligations.SetDeviceStoresAllTen : Prop :=
  ∀ (s : State) (tag : Tag) (p : List Byte), p.length = 17 → s.Admits 0x10 tag p →
    (¬(∀ a : Axis, (s.axis a).life = .disabled ∨ (s.axis a).life = .idle) →
      exec (.setDevice tag p) s = .next (s.answered 0x10 tag .badState .alone)) ∧
    ((∀ a : Axis, (s.axis a).life = .disabled ∨ (s.axis a).life = .idle) →
      (stopModeOfByte (byteAt p 4) = none ∨ edgeOfByte (byteAt p 5) = none →
        exec (.setDevice tag p) s = .next (s.answered 0x10 tag .badArg .alone)) ∧
      ∀ m e, stopModeOfByte (byteAt p 4) = some m → edgeOfByte (byteAt p 5) = some e →
        let raw : Settings :=
          { silence := readU16 p 0, stream := readU16 p 2, stopMode := m, edge := e, shockThreshold := readU16 p 6
            shockWindow := readU8 p 8, stillness := readU16 p 9, vDerate := readU16 p 11, vCut := readU16 p 13
            vOver := readU16 p 15 }
        let new : Settings :=
          { silence := clamp raw.silence 50 2000, stream := clamp raw.stream 10 500, stopMode := m, edge := e
            shockThreshold := clamp raw.shockThreshold 500 16000, shockWindow := clamp raw.shockWindow 10 200
            stillness := clamp raw.stillness 50 5000, vDerate := clamp raw.vDerate 100 600
            vCut := clamp raw.vCut 100 600, vOver := clamp raw.vOver 100 650 }
        (¬(new.vCut < new.vDerate ∧ new.vDerate < new.vOver) →
          exec (.setDevice tag p) s = .next (s.answered 0x10 tag .badArg .alone)) ∧
        (new.vCut < new.vDerate → new.vDerate < new.vOver →
          (e ≠ .off ∨ s.sync.present = false →
            exec (.setDevice tag p) s =
              .next (State.answered { s with settings := new } 0x10 tag (if new = raw then .ok else .clamped) .alone)) ∧
          (e = .off → s.sync.present = true →
            ∃ t, exec (.setDevice tag p) s = .next t ∧ t.settings = new ∧
              t.sync = { s.sync with present := false, lossTimer := none } ∧
              t.Replies ⟨0x10, tag, if new = raw then .ok else .clamped, .alone⟩ ∧
              t.Events s (.syncLost s.sync.frame s.sync.lastEdge))))

/-- CONFIGURE_AXIS is judged in the order of R3: an axis number above 3 is BAD_ARG; an axis other than DISABLED or IDLE
BAD_STATE; a running test BUSY; a kind outside its list BAD_ARG; and for kind INERTIAL or JOINT a code outside its list, an
input mapped to another axis, or soft limits that are not min < max after clamping, BAD_ARG.  A record of kind INERTIAL or
JOINT that passes is stored clamped to the ranges of section 1.2, CLAMPED when that changed a value: the gains become
zero, no staged record and no stream rate is left, an IDLE axis's queue is flushed, its entries stay but for the
conditions that R4 ends, and the axis is IDLE.  Of kind NONE, the axis becomes DISABLED with a zero record, no mark and no
fault entry.  With no group open, each segment removed from an IDLE axis that notifies has its report of outcome FLUSHED.
No other axis's state, record, drive or fault set changes (R3, R4, R5).  That a code which no test judges (the gyro codes of
a JOINT record, the ride-through byte) is neither refused nor changed but kept as carried is the model's choice (log entry
7). -/
def Obligations.ConfigureAxisAppliesTheRecord : Prop :=
  ∀ (s : State) (tag : Tag) (p : List Byte), p.length = 67 → s.Admits 0x11 tag p →
    let refused (st : Status) : Prop := exec (.configureAxis tag p) s = .next (s.answered 0x11 tag st .alone)
    (3 < (byteAt p 0).toNat → refused .badArg) ∧
    ∀ a : Axis, (byteAt p 0).toNat = a.val →
      (¬((s.axis a).life = .disabled ∨ (s.axis a).life = .idle) → refused .badState) ∧
      ((s.axis a).life = .disabled ∨ (s.axis a).life = .idle →
        ((s.axis a).test.running = true → refused .busy) ∧
        ((s.axis a).test.running = false →
          (2 < (byteAt p 1).toNat → refused .badArg) ∧
          ∀ k : AxisKind, kindOfByte (byteAt p 1) = some k →
            let r := readRecord p k
            let new : AxisRecord :=
              { r with
                num := clamp r.num 1 65535, den := clamp r.den 1 65535, limMin := clamp r.limMin (-2000000) 2000000
                limMax := clamp r.limMax (-2000000) 2000000, margin := clamp r.margin 0 10000
                rateLimit := clamp r.rateLimit 1000 600000, accelLimit := clamp r.accelLimit 1000 5000000
                window := clamp r.window 1 5000, errClamp := clamp r.errClamp 100 90000
                trackLimit := clamp r.trackLimit 100 180000, trackTime := clamp r.trackTime 1 1000
                torque := clamp r.torque 0 1000, slew := clamp r.slew 1 2000, bias := clamp r.bias (-500) 500
                satTime := clamp r.satTime 1 5000, trip := clamp r.trip 100 30000
                deadTime := clamp r.deadTime 100 2000, releaseTime := clamp r.releaseTime 20 500
                engageTime := clamp r.engageTime 20 500, ffGain := clamp r.ffGain 0 2048, tap := clamp r.tap 0 15 }
            let listed : Prop :=
              (r.period = 250 ∨ r.period = 500 ∨ r.period = 1000 ∨ r.period = 2000) ∧
                (k = .inertial → r.gyroChannel.toNat ≤ 2 ∧ (r.gyroSign = 0x01 ∨ r.gyroSign = 0xFF)) ∧
                r.encoder.toNat ≤ 4 ∧ (k = .joint → r.encoder.toNat ≤ 3) ∧ r.vehChannel.toNat ≤ 3 ∧
                (r.vehSign = 0x01 ∨ r.vehSign = 0xFF)
            let mapped : Prop :=
              r.encoder.toNat ≤ 3 ∧
                ∃ b : Axis, b ≠ a ∧ (s.axis b).life ≠ .disabled ∧ (s.axis b).cfg.encoder = r.encoder
            let holdRuns : Bool :=
              (s.axis a).cfg.encoder == r.encoder &&
                [0, 1, 2, 3].any fun i : Input => r.encoder.toNat == i.val && (s.encoders.get i).hold.isSome
            (k ≠ .none → ¬listed ∨ mapped ∨ new.limMax ≤ new.limMin → refused .badArg) ∧
            ((k ≠ .none → listed ∧ ¬mapped ∧ new.limMin < new.limMax) →
              ∃ t, exec (.configureAxis tag p) s = .next t ∧
                (t.axis a).hold = ⟨0, 0, 0⟩ ∧ (t.axis a).move = ⟨0, 0, 0⟩ ∧ (t.axis a).staged = none ∧
                (t.axis a).stream = { rate := 0, arrival := none, aged := true, timer := none, lapse := .clear } ∧
                ((s.axis a).life = .idle → (t.axis a).waiting = [] ∧ (t.axis a).active = none) ∧
                ((s.axis a).life = .idle → s.groups = [] →
                  (∀ g ∈ (s.axis a).waiting, g.notify = true →
                    t.Reports (.segment a g.tag .flushed false false s.time s.sync.frame)) ∧
                  ∀ c, (s.axis a).active = some c → c.seg.notify = true ∨ c.syncMissed = true →
                    t.Reports (.segment a c.seg.tag .flushed c.syncMissed true s.time s.sync.frame)) ∧
                (if k = .none then
                  (t.axis a).life = .disabled ∧ (t.axis a).cfg = .zero ∧ (t.axis a).marks = .fill none ∧
                    (t.axis a).faults = [] ∧ t.Replies ⟨0x11, tag, .ok, .alone⟩
                else
                  (t.axis a).life = .idle ∧ (t.axis a).cfg = new ∧
                    (t.axis a).marks = (if (s.axis a).life = .disabled then .fill none else (s.axis a).marks) ∧
                    (t.axis a).faults =
                      (if (s.axis a).life = .disabled then (s.axis a).faults
                      else
                        (s.axis a).faults.map fun e =>
                          if (e.kind = .encoderFault ∧ holdRuns = false) ∨ (e.kind = .sensorStall ∧ k ≠ .inertial) then
                            { e with present := false }
                          else e) ∧
                    t.Replies ⟨0x11, tag, if new = r then .ok else .clamped, .alone⟩) ∧
                t.settings = s.settings ∧
                ∀ b : Axis, b ≠ a →
                  (t.axis b).life = (s.axis b).life ∧ (t.axis b).cfg = (s.axis b).cfg ∧
                    (t.axis b).drive = (s.axis b).drive ∧ (t.axis b).faults = (s.axis b).faults ∧
                    (t.axis b).marks = (s.axis b).marks)))

/-- SET_GAINS: an axis number above 3 or a code outside its list is BAD_ARG, a DISABLED axis BAD_STATE; else Ki is
clamped to 4095, and the gains are written at once into their target set or sets on an IDLE or FAULTED axis, and become
the staged record on a powered one.  Nothing else changes (R6). -/
def Obligations.SetGainsWritesOrStages : Prop :=
  ∀ (s : State) (tag : Tag) (p : List Byte), p.length = 9 → s.Admits 0x12 tag p →
    (3 < (byteAt p 0).toNat ∨ 2 < (byteAt p 1).toNat ∨ 1 < (byteAt p 8).toNat →
      exec (.setGains tag p) s = .next (s.answered 0x12 tag .badArg .alone)) ∧
    ∀ (a : Axis) (t : GainTarget) (m : ApplyMode),
      (byteAt p 0).toNat = a.val → targetOfByte (byteAt p 1) = some t → applyOfByte (byteAt p 8) = some m →
        let g : Gains := { kp := readU16 p 2, kr := readU16 p 4, ki := if 4095 < readU16 p 6 then 4095 else readU16 p 6 }
        let st : Status := if 4095 < readU16 p 6 then .clamped else .ok
        ((s.axis a).life = .disabled → exec (.setGains tag p) s = .next (s.answered 0x12 tag .badState .alone)) ∧
        ((s.axis a).life = .idle ∨ (s.axis a).life = .faulted →
          exec (.setGains tag p) s =
            .next
              ((s.modAxis a fun x =>
                { x with
                  hold := if t = .move then x.hold else g
                  move := if t = .hold then x.move else g
                  staged := none }).answered 0x12 tag st .alone)) ∧
        ((s.axis a).life.powered = true →
          exec (.setGains tag p) s =
            .next ((s.modAxis a fun x => { x with staged := some ⟨t, g, m⟩ }).answered 0x12 tag st .alone))

/-- SET_REACTION: a kind code outside 0..9 or a level above 4 is BAD_ARG and changes nothing; else the level, raised to
the kind's lowest of section 7.1, is stored and carried by the reply, CLAMPED when it was raised (R122). -/
def Obligations.SetReactionStoresTheLevel : Prop :=
  ∀ (s : State) (tag : Tag) (kb lb : Byte), s.Admits 0x13 tag [kb, lb] →
    (9 < kb.toNat ∨ 4 < lb.toNat →
      exec (.setReaction tag [kb, lb]) s = .next (s.answered 0x13 tag .badArg .alone)) ∧
    ∀ (k : FaultKind) (l : Level), kb.toNat = kindCode k → lb.toNat = l.code →
      let lowest : Nat :=
        match k with
        | .overcurrent => 4
        | .busOvervolt | .stopLine => 3
        | .sensorStall | .limitOverrun | .busUndervolt | .encoderFault => 2
        | .tracking | .saturation | .linkSilence => 0
      ∃ l' : Level, l'.code = max l.code lowest ∧
        exec (.setReaction tag [kb, lb]) s =
          .next
            (State.answered { s with reactions := s.reactions.set k l' } 0x13 tag
              (if l.code < lowest then .clamped else .ok) (.level l')) ∧
        (s.reactions.set k l').get k = l' ∧ ∀ j, j ≠ k → (s.reactions.set k l').get j = s.reactions.get j

/-- SET_MARK on a configured axis makes the mark present with the fields it carries; SET_TELEMETRY stores the interval
and mask, and starts its timer afresh or, for OFF, stops it.  Nothing else changes (R139, R162). -/
def Obligations.SetMarkAndTelemetryStore : Prop :=
  (∀ (s : State) (tag : Tag) (p : List Byte), p.length = 9 → s.Admits 0x14 tag p →
    (3 < (byteAt p 0).toNat ∨ 3 < (byteAt p 1).toNat ∨ 2 < (byteAt p 6).toNat ∨ 1 < (byteAt p 7).toNat ∨
        1 < (byteAt p 8).toNat →
      exec (.setMark tag p) s = .next (s.answered 0x14 tag .badArg .alone)) ∧
    ∀ (a : Axis) (id : Fin 4) (d : MarkDirection) (m : MarkMode) (e : Bool),
      (byteAt p 0).toNat = a.val → (byteAt p 1).toNat = id.val → directionOfByte (byteAt p 6) = some d →
        markModeOfByte (byteAt p 7) = some m → boolOfByte (byteAt p 8) = some e →
          ((s.axis a).life = .disabled →
            exec (.setMark tag p) s = .next (s.answered 0x14 tag .badState .alone)) ∧
          ((s.axis a).life ≠ .disabled →
            exec (.setMark tag p) s =
              .next
                ((s.modAxis a fun x =>
                  { x with
                    marks := x.marks.set id (some { angle := readS32 p 2, direction := d, mode := m, enabled := e }) }
                  ).answered 0x14 tag .ok .alone))) ∧
  ∀ (s : State) (tag : Tag) (code mask : Byte), s.Admits 0x15 tag [code, mask] →
    (7 < code.toNat ∨ 15 < mask.toNat →
      exec (.setTelemetry tag [code, mask]) s = .next (s.answered 0x15 tag .badArg .alone)) ∧
    (code.toNat ≤ 7 → mask.toNat ≤ 15 →
      exec (.setTelemetry tag [code, mask]) s =
        .next
          (State.answered
            { s with
              link :=
                { s.link with
                  telemetryCode := code.toNat
                  telemetryMask := mask.setWidth 4
                  telemetryTimer :=
                    if code = 0 then none
                    else some ⟨s.time, [0, 1000, 2000, 5000, 10000, 20000, 50000, 100000].getD code.toNat 0⟩ } }
            0x15 tag .ok .alone))

/-- ARM judges each axis of the mask by R8 and arms those that pass, leaving every other axis as it is.  An armed axis is
ARMING with its arming timer and update timer started, its setpoint at its measured angle (the joint angle of now, 0 for
INERTIAL), its loop and its delay line cleared, RUN pending and its brake released; the reply lists one status for each
axis of the mask in ascending order (R8, R9, R68).  The model's choices here: a mask with an upper bit set is answered by
an empty list (log entry 12), the measured rate reads 0 at arming (log entry 20), the bus is held to the V_cut stored now
(log entry 35), and an angle beyond 32 bits arms at a free value (log entry 3). -/
def Obligations.ArmArmsWhatPasses : Prop :=
  ∀ (s : State) (tag : Tag) (m : Byte), s.Admits 0x20 tag [m] →
    (15 < m.toNat → exec (.arm tag [m]) s = .next (s.answered 0x20 tag .badArg (.statuses []))) ∧
    (m.toNat ≤ 15 →
      let judged (a : Axis) : Status :=
        let x := s.axis a
        if x.life ≠ .idle then .badState
        else if x.test.running = true then .busy
        else if 2 ≤ (effectiveLevel x.faults).code then .faultActive
        else if s.stopLine.asserted = true then .badState
        else if s.bus.sampled = false ∨ s.bus.voltage ≤ s.settings.vCut then .faultActive
        else if x.cfg.kind = .inertial ∧ s.bias.validity ≠ .valid then .notCalibrated
        else .ok
      let list := ([0, 1, 2, 3].filter fun a : Axis => m.getLsbD a.val).map judged
      ∃ t, exec (.arm tag [m]) s = .next t ∧ { t with axes := s.axes, link := s.link } = s ∧
        t.Replies ⟨0x20, tag, leadingStatus list, .statuses list⟩ ∧
        ∀ a : Axis,
          let x := s.axis a
          ∃ theta, (x.cfg.kind = .inertial → theta = 0) ∧ (x.cfg.kind = .joint → s.JointAngle a theta) ∧
            t.axis a =
              if m.getLsbD a.val = true ∧ judged a = .ok then
                { x with
                  life := .arming
                  armingTimer := some ⟨s.time, x.cfg.releaseTime.toNat * 1000⟩
                  updateTimer := some ⟨s.time, x.cfg.period.toNat⟩
                  meas :=
                    { x.meas with
                      theta := theta
                      omega := 0
                      inertial := if x.cfg.kind = .inertial then 0 else x.meas.inertial
                      inertialRem := if x.cfg.kind = .inertial then 0 else x.meas.inertialRem
                      history := List.replicate 5 theta }
                  gen :=
                    { x.gen with
                      theta := angle32 theta, rem := 0, omega := 0, target := 0, moving := false, latch := none }
                  loop :=
                    { integ := 0, uPrev := 0, uOut := 0, line := List.replicate 16 0, head := x.loop.head
                      trackTimer := 0, satTimer := 0, saturated := false, moveSet := false, paused := false
                      overrun := .notChecked }
                  drive := { x.drive with handed := 0, pending := some .run, brakeReleased := true }
                  markSkip := true }
              else x)

/-- STOP and DISARM over a mask: each axis of the mask goes where R11 and R12 send it and every other axis keeps its
state; a TRACKING or ARMING axis of the mask loses every segment; DISARM engages the brake and starts the engage timer
of an axis it takes from ARMING or HELD; drives and fault sets are otherwise untouched.  The reply lists one status for
each axis of the mask in ascending order (R8, R10, R11, R12, R14).  A mask with an upper bit set is BAD_ARG for the whole
request (R8), with an empty list (the model's choice, log entry 12). -/
def Obligations.StopAndDisarmTakeAxesDown : Prop :=
  ∀ (s : State) (tag : Tag) (m : Byte),
    (15 < m.toNat →
      (s.Admits 0x22 tag [m] → exec (.stop tag [m]) s = .next (s.answered 0x22 tag .badArg (.statuses []))) ∧
      (s.Admits 0x21 tag [m] → exec (.disarm tag [m]) s = .next (s.answered 0x21 tag .badArg (.statuses [])))) ∧
    (m.toNat ≤ 15 → s.Admits 0x22 tag [m] →
      ∃ t, exec (.stop tag [m]) s = .next t ∧
        (∀ a : Axis,
          (t.axis a).life =
              (if m.getLsbD a.val = true ∧ (s.axis a).life = .tracking then .stopping .stop .decel
              else (s.axis a).life) ∧
            (m.getLsbD a.val = true → (s.axis a).life = .tracking ∨ (s.axis a).life = .arming →
              (t.axis a).waiting = [] ∧ (t.axis a).active = none) ∧
            (t.axis a).drive = (s.axis a).drive ∧ (t.axis a).faults = (s.axis a).faults ∧
            (t.axis a).cfg = (s.axis a).cfg ∧ (t.axis a).gen.theta = (s.axis a).gen.theta ∧
            (t.axis a).gen.omega = (s.axis a).gen.omega) ∧
        ∃ st, t.Replies ⟨0x22, tag, leadingStatus st, .statuses st⟩ ∧
          st = ([0, 1, 2, 3].filter fun a : Axis => m.getLsbD a.val).map fun a =>
            match (s.axis a).life with
            | .tracking | .arming | .stopping _ _ => Status.ok
            | _ => .badState) ∧
    (m.toNat ≤ 15 → s.Admits 0x21 tag [m] →
      ∃ t, exec (.disarm tag [m]) s = .next t ∧
        (∀ a : Axis,
          (t.axis a).life =
              (if m.getLsbD a.val = true then
                match (s.axis a).life with
                | .tracking => .stopping .disarm .decel
                | .stopping .disarm ph => .stopping .disarm ph
                | .stopping _ _ => .stopping .disarm .decel
                | .arming | .held => .stopping .disarm .engage
                | l => l
              else (s.axis a).life) ∧
            (m.getLsbD a.val = true → (s.axis a).life = .tracking ∨ (s.axis a).life = .arming →
              (t.axis a).waiting = [] ∧ (t.axis a).active = none) ∧
            (if m.getLsbD a.val = true ∧ ((s.axis a).life = .arming ∨ (s.axis a).life = .held) then
              (t.axis a).drive = { (s.axis a).drive with brakeReleased := false } ∧ (t.axis a).armingTimer = none ∧
                (t.axis a).engageTimer = some ⟨s.time, (s.axis a).cfg.engageTime.toNat * 1000⟩
            else (t.axis a).drive = (s.axis a).drive) ∧
            (t.axis a).faults = (s.axis a).faults ∧ (t.axis a).cfg = (s.axis a).cfg) ∧
        ∃ st, t.Replies ⟨0x21, tag, leadingStatus st, .statuses st⟩ ∧
          st = ([0, 1, 2, 3].filter fun a : Axis => m.getLsbD a.val).map fun a =>
            match (s.axis a).life with
            | .tracking | .arming | .held | .stopping _ _ => Status.ok
            | _ => .badState)

/-- CLEAR_FAULTS over a mask: each configured axis of the mask loses the entries whose condition is absent (and the
OVERCURRENT entry of a FAULTED axis) and keeps the others in order; where the level left is DERATE or lower, a FAULTED
axis becomes IDLE with OPEN pending and a HELD one TRACKING.  Every other axis keeps its set and its state.  The reply
lists for each axis of the mask, in ascending order, OK and the kinds it keeps in set order, or BAD_STATE and none for a
DISABLED one (R127, R129, R130).  A mask with an upper bit set is BAD_ARG for the whole request, with an empty list (the
model's choice, log entry 12). -/
def Obligations.ClearFaultsRemovesEndedEntries : Prop :=
  ∀ (s : State) (tag : Tag) (m : Byte), s.Admits 0x23 tag [m] →
    (15 < m.toNat → exec (.clearFaults tag [m]) s = .next (s.answered 0x23 tag .badArg (.kept []))) ∧
    (m.toNat ≤ 15 →
      let kept (a : Axis) : List FaultEntry :=
        (s.axis a).faults.filter fun e => e.present && !((s.axis a).life == .faulted && e.kind == .overcurrent)
      let list : List (Status × List FaultKind) :=
        ([0, 1, 2, 3].filter fun a : Axis => m.getLsbD a.val).map fun a =>
          if (s.axis a).life = .disabled then (.badState, []) else (.ok, (kept a).map (·.kind))
      ∃ t, exec (.clearFaults tag [m]) s = .next t ∧
        t.Replies ⟨0x23, tag, leadingStatus (list.map (·.1)), .kept list⟩ ∧
        ∀ a : Axis,
          let x := s.axis a
          if m.getLsbD a.val = true ∧ x.life ≠ .disabled then
            (t.axis a).faults = kept a ∧
              (t.axis a).life =
                (if (effectiveLevel (kept a)).code < 2 then
                  match x.life with
                  | .faulted => .idle
                  | .held => .tracking
                  | l => l
                else x.life) ∧
              (t.axis a).drive =
                (if (effectiveLevel (kept a)).code < 2 ∧ x.life = .faulted then { x.drive with pending := some .open }
                else x.drive)
          else (t.axis a).faults = x.faults ∧ (t.axis a).life = x.life ∧ (t.axis a).drive = x.drive)

/-- BIAS_CAPTURE is judged in the order of R34: a mode code outside its list is BAD_ARG; a running capture BUSY; a LONG
one in SETTLING BUSY, and with an INERTIAL axis other than IDLE or DISABLED BAD_STATE; a SHORT one with the validity not
VALID NOT_CALIBRATED.  One that passes, with the head sample fresh, begins a capture of its mode with sums and count 0, a
LONG one recording the validity and making it INVALID; with the head sample stale the capture aborts at once, leaving
bias and validity as they were.  The reply is then OK (R34, R35, R37). -/
def Obligations.BiasCaptureBegins : Prop :=
  ∀ (s : State) (tag : Tag) (b : Byte), s.Admits 0x24 tag [b] →
    let refused (st : Status) : Prop := exec (.biasCapture tag [b]) s = .next (s.answered 0x24 tag st .alone)
    let atRest : Prop := ∀ a : Axis, (s.axis a).cfg.kind = .inertial →
      (s.axis a).life = .idle ∨ (s.axis a).life = .disabled
    (1 < b.toNat → refused .badArg) ∧
    ∀ m : CaptureMode, captureOfByte b = some m →
      (s.bias.activity ≠ none → refused .busy) ∧
      (s.bias.activity = none →
        (m = .long → s.bias.validity = .settling → refused .busy) ∧
        (m = .long → s.bias.validity ≠ .settling → ¬atRest → refused .badState) ∧
        (m = .short → s.bias.validity ≠ .valid → refused .notCalibrated) ∧
        ((m = .long → s.bias.validity ≠ .settling ∧ atRest) → (m = .short → s.bias.validity = .valid) →
          (s.head.stale = false →
            exec (.biasCapture tag [b]) s =
              .next
                (State.answered
                  { s with
                    bias :=
                      { s.bias with
                        activity := some m
                        sums := ⟨0, 0, 0⟩
                        count := 0
                        prior := if m = .long then some s.bias.validity else s.bias.prior
                        validity := if m = .long then .invalid else s.bias.validity } }
                  0x24 tag .ok .alone)) ∧
          (s.head.stale = true →
            ∃ t, exec (.biasCapture tag [b]) s = .next t ∧ t.bias.activity = none ∧ t.bias.bias = s.bias.bias ∧
              t.bias.validity = s.bias.validity ∧ t.Replies ⟨0x24, tag, .ok, .alone⟩ ∧
              t.Events s (.biasAborted m .headStale 0) ∧ t.axes = s.axes)))

/-- DRIVE_TEST is judged in the order of R18: an axis number above 3 is BAD_ARG; an axis that is not IDLE BAD_STATE; a
running test BUSY; an entry of level STOP or higher FAULT_ACTIVE; the stop line asserted BAD_STATE; a bus not sampled, or
at or below V_cut, FAULT_ACTIVE.  One that passes starts a test of the demand clamped to ±300 and the duration clamped to
1..2000 ms, with RUN pending on the drive; nothing else changes, and the reply is CLAMPED when a value was changed (R18).
That the bus is held to the V_cut stored now is the model's choice (log entry 35). -/
def Obligations.DriveTestStarts : Prop :=
  ∀ (s : State) (tag : Tag) (p : List Byte), p.length = 5 → s.Admits 0x25 tag p →
    let refused (st : Status) : Prop := exec (.driveTest tag p) s = .next (s.answered 0x25 tag st .alone)
    (3 < (byteAt p 0).toNat → refused .badArg) ∧
    ∀ a : Axis, (byteAt p 0).toNat = a.val →
      let x := s.axis a
      (x.life ≠ .idle → refused .badState) ∧
      (x.life = .idle → x.test.running = true → refused .busy) ∧
      (x.life = .idle → x.test.running = false → 2 ≤ (effectiveLevel x.faults).code → refused .faultActive) ∧
      (x.life = .idle → x.test.running = false → (effectiveLevel x.faults).code < 2 →
        (s.stopLine.asserted = true → refused .badState) ∧
        (s.stopLine.asserted = false → s.bus.sampled = false ∨ s.bus.voltage ≤ s.settings.vCut →
          refused .faultActive) ∧
        (s.stopLine.asserted = false → s.bus.sampled = true → s.settings.vCut < s.bus.voltage →
          exec (.driveTest tag p) s =
            .next
              ((s.modAxis a fun x =>
                { x with
                  test :=
                    { running := true, demand := clamp (readS16 p 1) (-300) 300
                      endTime := s.time + BitVec.ofInt 32 (clamp (readU16 p 3) 1 2000 * 1000), peak := 0, sum := 0
                      count := 0 }
                  drive := { x.drive with pending := some .run } }).answered 0x25 tag
                (if clamp (readS16 p 1) (-300) 300 = readS16 p 1 ∧ clamp (readU16 p 3) 1 2000 = readU16 p 3 then .ok
                else .clamped) .alone)))

/-- RESET is answered OK and sets reset pending; at the end of the last character of its reply the soft reset takes
effect: every block takes its soft-reset values, the bias, the encoder counts and homed flags and the phase of the PWM
period being kept, and a SETTLING validity becoming VALID (R20, R41, R118, R138, R154, R155).  That the levels of STOP_N
and FSYNC sampled by a soft reset are the filtered levels held is read from the rules by inference (log entry 25). -/
def Obligations.ResetLeadsToASoftReset : Prop :=
  (∀ (s : State) (tag : Tag), s.Admits 0x2F tag [] →
    exec (.reset tag []) s =
      .next (State.answered { s with link := { s.link with resetPending := true } } 0x2F tag .ok .alone)) ∧
  ∀ (s : State) (tag : Tag) (start : Time),
    s.link.resetPending = true → s.link.tx = some ⟨.reply ⟨0x2F, tag, .ok, .alone⟩, start⟩ →
      ∃ t, exec .transmitComplete s = .next t ∧ t.IsReset ∧ t.bias.bias = s.bias.bias ∧
        (s.bias.activity ≠ some .long →
          t.bias.validity = if s.bias.validity = .settling then .valid else s.bias.validity) ∧
        (∀ v, s.bias.activity = some .long → s.bias.prior = some v → t.bias.validity = v) ∧
        (∀ i : Input, (t.encoders.get i).count = (s.encoders.get i).count ∧
          (t.encoders.get i).homed = (s.encoders.get i).homed) ∧
        t.pwmPhase = s.pwmPhase ∧ t.stopLine.asserted = s.stopLine.asserted ∧ t.sync.level = s.sync.level

/-- TRANSMIT_COMPLETE of any other frame: the transmitter takes the next frame by class, the oldest reply, then the
oldest FAULT report, then the oldest SEGMENT, MARK or EVENT report, then the TELEMETRY report, which leaves its slot;
with no frame waiting it is idle.  Nothing else changes (R152). -/
def Obligations.TransmitterTakesByClass : Prop :=
  ∀ s : State, s.link.tx.isSome = true →
    (s.link.resetPending = false ∨ ∀ r : Reply, s.link.tx.map (·.frame) = some (.reply r) → r.type ≠ 0x2F) →
    ∃ t, exec .transmitComplete s = .next t ∧
      { t with
          link :=
            { t.link with replies := s.link.replies, reports := s.link.reports, tx := s.link.tx } } = s ∧
      match s.link.replies with
      | r :: rest =>
        t.link.tx = some ⟨.reply r, s.time⟩ ∧ t.link.replies = rest ∧ t.link.reports = s.link.reports
      | [] =>
        t.link.replies = [] ∧
          match s.link.reports.find? Report.isFault with
          | some r =>
            t.link.tx = some ⟨.report r, s.time⟩ ∧ t.link.reports = s.link.reports.eraseP Report.isFault
          | none =>
            match s.link.reports.find? fun r => !r.isTelemetry with
            | some r =>
              t.link.tx = some ⟨.report r, s.time⟩ ∧ t.link.reports = s.link.reports.eraseP fun r => !r.isTelemetry
            | none =>
              match s.link.reports with
              | r :: rest => t.link.tx = some ⟨.report r, s.time⟩ ∧ t.link.reports = rest
              | [] => t.link.tx = none ∧ t.link.reports = []

/-- QUEUE_SEGMENT is judged in the order of R44 and R45, and a refused one changes nothing and carries the depth as it
stands.  One that passes joins the tail of its axis's queue with its value, cap, accel and duration clamped as R46 states,
CLAMPED when that changed one, and the reply carries the depth after it.  With group 0 and start IMMEDIATE, or on an axis
where it is not ready, nothing else changes; with start SYNC a ready one begins counting delay + 1 edges, or with sync
absent becomes active with SYNC_MISSED.  With a group its axis joins the queued mask of the group's open entry, a new one
where none is open, and where the segment is ready also the arrived mask; an arrival that completes the members begins the
counting of a group of start SYNC, and fires one of start IMMEDIATE, or of start SYNC with sync absent: each member's
segment becomes active and the entry closes (R42, R43, R44, R45, R46, R47, R49, R53, R56, R57, R58).  The depth carried
where the axis number names no axis is open (log entry 4), and that a negative duration is stored as carried is read from
R46 by inference (log entry 17). -/
def Obligations.QueueSegmentJoinsTheQueue : Prop :=
  ∀ (s : State) (tag : Tag) (p : List Byte), p.length = 26 → s.Admits 0x30 tag p →
    let answer (u : State) (st : Status) (d : Nat) : Prop :=
      exec (.queueSegment tag p) s = .next (u.answered 0x30 tag st (.depth (BitVec.ofNat 8 d)))
    (3 < (byteAt p 0).toNat → ∃ d, exec (.queueSegment tag p) s = .next (s.answered 0x30 tag .badArg (.depth d))) ∧
    ∀ a : Axis, (byteAt p 0).toNat = a.val →
      let x := s.axis a
      let depth : Nat := x.waiting.length + (if x.active.isSome then 1 else 0)
      (4 < (byteAt p 3).toNat ∨ 1 < (byteAt p 21).toNat ∨ 15 < (byteAt p 22).toNat ∨ 15 < (byteAt p 23).toNat ∨
          (byteAt p 23 ≠ 0 ∧ 15 < (byteAt p 24).toNat) ∨ 1 < (byteAt p 25).toNat →
        answer s .badArg depth) ∧
      ∀ c : CarriedSegment, readSegment p = some c →
        let homed : Bool :=
          [0, 1, 2, 3].any fun i : Input => x.cfg.encoder.toNat == i.val && (s.encoders.get i).homed
        let entry := s.groups.find? fun e => e.id == c.group
        let taken : Prop := x.life = .idle ∨ x.life = .arming ∨ x.life = .tracking
        let wrong : Prop :=
          (c.kind = .rate ∧ c.value = none) ∨ (c.kind = .goto ∧ (c.value = none ∨ c.cap.getD 0 ≤ 0)) ∨
            (c.kind = .home ∧ (x.cfg.kind = .inertial ∨ c.value.getD 0 = 0 ∨ c.cap.getD 0 ≤ 0))
        let notHomed : Prop := c.kind = .goto ∧ x.cfg.kind = .joint ∧ homed = false
        let groupWrong : Prop :=
          c.group ≠ 0 ∧ (c.members.getLsbD a.val = false ∨
            ∃ e, entry = some e ∧ (e.members ≠ c.members.setWidth 4 ∨ e.start ≠ c.start))
        let conflict : Prop :=
          c.group ≠ 0 ∧ ((∃ e, entry = some e ∧ e.queued.getLsbD a.val = true) ∨ (entry = none ∧ 4 ≤ s.groups.length))
        (¬taken → answer s .badState depth) ∧
        (taken → 8 ≤ depth → answer s .queueFull depth) ∧
        (taken → depth < 8 →
          (wrong → answer s .badArg depth) ∧
          (¬wrong → notHomed → answer s .notHomed depth) ∧
          (¬wrong → ¬notHomed → groupWrong → answer s .badArg depth) ∧
          (¬wrong → ¬notHomed → ¬groupWrong → conflict → answer s .groupConflict depth) ∧
          (¬wrong → ¬notHomed → ¬groupWrong → ¬conflict →
            let g : Segment :=
              { tag := c.tag
                kind := c.kind
                value :=
                  match c.kind with
                  | .rate | .home => clamp (c.value.getD 0) (-x.cfg.rateLimit) x.cfg.rateLimit
                  | .goto =>
                    if x.cfg.kind = .joint ∧ homed = true then clamp (c.value.getD 0) x.cfg.limMin x.cfg.limMax
                    else c.value.getD 0
                  | .hold | .stream => 0
                cap :=
                  match c.kind with
                  | .goto => min (c.cap.getD 0) x.cfg.rateLimit
                  | .home => c.cap.getD 0
                  | .hold | .rate | .stream => 0
                accel := if c.accel = 0 then x.cfg.accelLimit else clamp c.accel 1000 x.cfg.accelLimit
                duration := min c.duration 600000
                start := c.start
                group := c.group
                members := c.members.setWidth 4
                notify := c.notify }
            let st : Status :=
              if ((c.kind = .rate ∨ c.kind = .goto ∨ c.kind = .home) ∧ g.value ≠ c.value.getD 0) ∨
                  (c.kind = .goto ∧ g.cap ≠ c.cap.getD 0) ∨ (c.accel ≠ 0 ∧ g.accel ≠ c.accel) ∨
                  g.duration ≠ c.duration then .clamped
              else .ok
            let queued := s.modAxis a fun x => { x with waiting := x.waiting ++ [g] }
            let ready : Prop :=
              x.life = .tracking ∧ x.waiting = [] ∧
                ∀ f, x.active = some f → f.seg.kind ≠ .goto ∧ f.seg.kind ≠ .home ∧ f.seg.duration = 0
            let active (g : Segment) (missed : Bool) : Option ActiveSegment :=
              some { seg := g, elapsed := 0, followed := false, syncMissed := missed }
            (c.group = 0 → c.start = .immediate ∨ ¬ready → answer queued st (depth + 1)) ∧
            (c.group = 0 → ready → x.counting = none → ∀ n, c.start = .sync n →
              (s.sync.present = true →
                answer (s.modAxis a fun x => { x with waiting := [g], counting := some (n + 1) }) st (depth + 1)) ∧
              (s.sync.present = false →
                ∃ t, exec (.queueSegment tag p) s = .next t ∧ t.Replies ⟨0x30, tag, st, .depth 1⟩ ∧
                  (t.axis a).active = active g true ∧ (t.axis a).waiting = [] ∧ (t.axis a).counting = none)) ∧
            (c.group ≠ 0 →
              let here : AxisMask := 1#4 <<< a.val
              let table : List GroupEntry :=
                if entry.isSome then s.groups
                else
                  s.groups ++
                    [{ id := c.group, members := c.members.setWidth 4, start := c.start, queued := 0, arrived := 0
                       remaining := none, syncMissed := false }]
              let joined (f : GroupEntry → GroupEntry) : State :=
                { queued with
                  groups :=
                    table.map fun e => if e.id == c.group then f { e with queued := e.queued ||| here } else e }
              (¬ready → answer (joined id) st (depth + 1)) ∧
              (ready → ∀ e, (table.find? fun e => e.id == c.group) = some e → e.arrived.getLsbD a.val = false →
                (e.arrived ||| here ≠ e.members →
                  answer (joined fun e => { e with arrived := e.arrived ||| here }) st (depth + 1)) ∧
                (e.arrived ||| here = e.members → s.sync.present = true → ∀ n, e.start = .sync n →
                  answer (joined fun e => { e with arrived := e.arrived ||| here, remaining := some (n + 1) }) st
                    (depth + 1)) ∧
                (e.arrived ||| here = e.members → e.start = .immediate ∨ s.sync.present = false →
                  ∃ t, exec (.queueSegment tag p) s = .next t ∧ t.Replies ⟨0x30, tag, st, .depth 1⟩ ∧
                    (∀ f ∈ t.groups, f.id ≠ c.group) ∧
                    ((t.axis a).active = active g (decide (e.start ≠ .immediate)) ∧ (t.axis a).waiting = []) ∧
                    ∀ (b : Axis) (h : Segment), b ≠ a → e.members.getLsbD b.val = true →
                      (s.axis b).waiting = [h] →
                        (t.axis b).active = active h (decide (e.start ≠ .immediate)) ∧ (t.axis b).waiting = [])))))

/-- FLUSH over a mask: each configured axis of the mask loses every segment behind the active one and stops counting,
and in mode ALL the active one too; no axis's state, record, drive, fault set, marks or setpoint changes.  The reply
lists OK for each configured axis of the mask and BAD_STATE for each DISABLED one.  With no group open each removed
segment that notifies has its report of outcome FLUSHED.  The removal of a member's segment breaks its group: the entry
closes, EVENT GROUP_BROKEN is queued, and each other queued member that the mask leaves out loses its segment of the group
with a report of outcome GROUP_BROKEN (R60, R61, R66).  A mask with an upper bit set or a mode outside its list is BAD_ARG
for the whole request (R61), with an empty list (the model's choice, log entry 12). -/
def Obligations.FlushEmptiesQueues : Prop :=
  ∀ (s : State) (tag : Tag) (m b : Byte), s.Admits 0x31 tag [m, b] →
    (15 < m.toNat ∨ 1 < b.toNat →
      exec (.flush tag [m, b]) s = .next (s.answered 0x31 tag .badArg (.statuses []))) ∧
    (m.toNat ≤ 15 → b.toNat ≤ 1 →
      ∃ t, exec (.flush tag [m, b]) s = .next t ∧
        (∀ a : Axis,
          (m.getLsbD a.val = true → (s.axis a).life ≠ .disabled →
            (t.axis a).waiting = [] ∧ (t.axis a).counting = none ∧ (b.toNat = 1 → (t.axis a).active = none)) ∧
          (t.axis a).life = (s.axis a).life ∧ (t.axis a).cfg = (s.axis a).cfg ∧
          (t.axis a).drive = (s.axis a).drive ∧ (t.axis a).faults = (s.axis a).faults ∧
          (t.axis a).marks = (s.axis a).marks ∧ (t.axis a).gen.theta = (s.axis a).gen.theta ∧
          (t.axis a).gen.omega = (s.axis a).gen.omega) ∧
        (∃ st, t.Replies ⟨0x31, tag, leadingStatus st, .statuses st⟩ ∧
          st = ([0, 1, 2, 3].filter fun a : Axis => m.getLsbD a.val).map fun a =>
            if (s.axis a).life = .disabled then Status.badState else .ok) ∧
        (s.groups = [] → ∀ a : Axis, m.getLsbD a.val = true → (s.axis a).life ≠ .disabled →
          (∀ g ∈ (s.axis a).waiting, g.notify = true →
            t.Reports (.segment a g.tag .flushed false false s.time s.sync.frame)) ∧
          (b.toNat = 1 → ∀ c, (s.axis a).active = some c → c.seg.notify = true ∨ c.syncMissed = true →
            t.Reports (.segment a c.seg.tag .flushed c.syncMissed true s.time s.sync.frame))) ∧
        ∀ e : GroupEntry, s.groups = [e] → e.id ≠ 0 →
          (∃ a : Axis, m.getLsbD a.val = true ∧ (s.axis a).life ≠ .disabled ∧ e.queued.getLsbD a.val = true ∧
            ∃ g ∈ (s.axis a).waiting, g.group = e.id) →
              t.groups = [] ∧ t.Events s (.groupBroken e.id) ∧
                ∀ (b : Axis) (g : Segment), m.getLsbD b.val = false → e.queued.getLsbD b.val = true →
                  (s.axis b).waiting.find? (fun g => g.group == e.id) = some g →
                    t.Reports (.segment b g.tag .groupBroken false false s.time s.sync.frame) ∧
                      ((s.axis b).life ≠ .tracking ∨ (s.axis b).waiting.head? ≠ some g ∨ (s.axis b).waiting = [g] →
                        (t.axis b).waiting = (s.axis b).waiting.eraseP fun g => g.group == e.id))

/-! ### Measurement -/

/-- HEAD_SAMPLE_FRAME and VEHICLE_SAMPLE_FRAME with the character that completes a frame of the right sum that is no
repeat: the record is replaced by the frame's clamped rates, sequence number and time, no longer stale.  A head frame
ends the SENSOR_STALL condition on every axis.  While a capture runs, a head frame with a rate beyond the stillness
threshold aborts it with HEAD_MOTION, one that finds a shock active aborts it with SHOCK, and any other is one more
sample, the 4096th or 256th of which sets each bias to the truncated mean, makes a LONG capture SETTLING for 100 ms, and
queues BIAS_DONE.  A vehicle frame that is exceeding makes the shock active to a new window end; where the shock begins by
it, EVENT SHOCK is queued and a running capture aborts with SHOCK; a vehicle frame with a rate beyond the threshold aborts
a capture that still runs with VEHICLE_MOTION.  An abort leaves the bias as it was and gives a LONG capture its prior
validity again.  Nothing else changes (R21, R22, R23, R24, R25, R36, R37, R39).  That motion is tested before shock is the
model's choice (log entries 10 and 38). -/
def Obligations.SensorFramesReplaceTheRecord : Prop :=
  ∀ (s : State) (c : Byte),
    let rates (b : List Byte) : Rates :=
      { x := clamp (readS32 b 2) (-1500000) 1500000, y := clamp (readS32 b 6) (-1500000) 1500000
        z := clamp (readS32 b 10) (-1500000) 1500000 }
    let moves (r : Rates) : Prop :=
      s.settings.stillness < magnitude r.x ∨ s.settings.stillness < magnitude r.y ∨
        s.settings.stillness < magnitude r.z
    let aborted (t : State) (m : CaptureMode) (why : AbortReason) : Prop :=
      t.bias =
          { s.bias with
            activity := none
            sums := ⟨0, 0, 0⟩
            count := 0
            validity := if m = .long then s.bias.prior.getD s.bias.validity else s.bias.validity
            prior := none } ∧
        t.Events s (.biasAborted m why s.bias.count)
    let h := s.headPort.bytes ++ [c]
    let v := s.vehiclePort.bytes ++ [c]
    (h.length = 15 → byteSum h = 0 → s.head.seq ≠ some (byteAt h 1) →
      ∃ t, exec (.headSampleFrame c) s = .next t ∧
        t.head = { seq := some (byteAt h 1), rates := rates h, arrival := s.time, stale := false } ∧
        t.headPort.bytes = [] ∧
        (∀ a : Axis, t.axis a =
          { s.axis a with
            faults :=
              (s.axis a).faults.map fun e => if e.kind = .sensorStall then { e with present := false } else e }) ∧
        (s.bias.activity = none → t.bias = s.bias) ∧
        (∀ m, s.bias.activity = some m →
          let n : Nat := match m with | .long => 4096 | .short => 256
          let sums : Rates :=
            ⟨s.bias.sums.x + (rates h).x, s.bias.sums.y + (rates h).y, s.bias.sums.z + (rates h).z⟩
          let mean : Rates := ⟨Int.tdiv sums.x n, Int.tdiv sums.y n, Int.tdiv sums.z n⟩
          (moves (rates h) → aborted t m .headMotion) ∧
          (¬moves (rates h) → s.shock.active = true → aborted t m .shock) ∧
          (¬moves (rates h) → s.shock.active = false → s.bias.count + 1 < n →
            t.bias = { s.bias with sums := sums, count := s.bias.count + 1 }) ∧
          (¬moves (rates h) → s.shock.active = false → n ≤ s.bias.count + 1 →
            t.Events s (.biasDone m mean) ∧
              t.bias =
                { bias := mean
                  validity := if m = .long then .settling else s.bias.validity
                  prior := none
                  activity := none
                  sums := ⟨0, 0, 0⟩
                  count := 0
                  settle := if m = .long then some ⟨s.time, 100000⟩ else s.bias.settle })) ∧
        { t with head := s.head, headPort := s.headPort, axes := s.axes, bias := s.bias, link := s.link } = s) ∧
    (v.length = 21 → byteSum v = 0 → s.vehicle.seq ≠ some (byteAt v 1) →
      let exceeds : Prop := s.settings.shockThreshold < magnitude (readS16 v 18 - 1000)
      ∃ t, exec (.vehicleSampleFrame c) s = .next t ∧
        t.vehicle =
          { seq := some (byteAt v 1), rates := rates v, accelZ := readS16 v 18, arrival := s.time, stale := false } ∧
        t.vehiclePort.bytes = [] ∧ (s.vehicle.stale = true → t.Events s .vehicleRestored) ∧
        (exceeds →
          t.shock = { active := true, windowEnd := s.time + BitVec.ofInt 32 (s.settings.shockWindow * 1000) } ∧
            (s.shock.active = false → t.Events s (.shock (readS16 v 18)))) ∧
        (¬exceeds → t.shock = s.shock) ∧
        (s.bias.activity = none → t.bias = s.bias) ∧
        (∀ m, s.bias.activity = some m →
          (exceeds → s.shock.active = false → aborted t m .shock) ∧
          (¬exceeds ∨ s.shock.active = true → moves (rates v) → aborted t m .vehicleMotion) ∧
          (¬exceeds ∨ s.shock.active = true → ¬moves (rates v) → t.bias = s.bias)) ∧
        { t with
            vehicle := s.vehicle, vehiclePort := s.vehiclePort, shock := s.shock, bias := s.bias, link := s.link } = s)

/-- SENSOR_CHARACTER: a hunting port discards all but its start byte, which begins a frame; a port that assembles stores
the character until the frame has its fixed length; a complete frame whose sum is not 0, or that repeats the last
accepted sequence number, is discarded and the port hunts again.  The idle transmitter takes a waiting frame, and
nothing else changes (R21, R152). -/
def Obligations.SensorCharactersAssembleFrames : Prop :=
  ∀ (s : State) (p : SensorPort) (c : Byte),
    let b := (s.port p).bytes
    let start : Byte := match p with | .head => 0xA5 | .vehicle => 0x5A
    let length : Nat := match p with | .head => 15 | .vehicle => 21
    let seq : Option Byte := match p with | .head => s.head.seq | .vehicle => s.vehicle.seq
    let after (x : List Byte) : State :=
      match p with
      | .head => State.startTransmit { s with headPort := { bytes := x, lastTime := s.time } }
      | .vehicle => State.startTransmit { s with vehiclePort := { bytes := x, lastTime := s.time } }
    (b = [] → c ≠ start → exec (.sensorCharacter p c) s = .next s.startTransmit) ∧
    (b = [] → c = start → exec (.sensorCharacter p c) s = .next (after [c])) ∧
    (b ≠ [] → b.length + 1 < length → exec (.sensorCharacter p c) s = .next (after (b ++ [c]))) ∧
    (b ≠ [] → b.length + 1 = length → byteSum (b ++ [c]) ≠ 0 ∨ seq = some (byteAt (b ++ [c]) 1) →
      exec (.sensorCharacter p c) s = .next (after []))

/-- HEAD_STALE with a fresh head sample sets the stale flag, raises SENSOR_STALL on every INERTIAL axis in a powered
state and on no other axis, and aborts a running capture, whose bias and validity are as before it (R24, R37, R119).
Which of the raises are taken at this event and in which order is the command's; each of the others waits, to be taken
at an event of its own (the model's form of R119, log entry 9). -/
def Obligations.HeadStaleRaisesSensorStall : Prop :=
  ∀ (s : State) (order : List Axis), s.head.stale = false →
    let raised (a : Axis) : Bool := (s.axis a).cfg.kind == .inertial && (s.axis a).life.powered
    ∃ t, exec (.headStale order) s = .next t ∧ t.head = { s.head with stale := true } ∧
      t.owed = s.owed ++
        ([0, 1, 2, 3].filter fun a : Axis => raised a && !order.contains a).map (fun a => (a, FaultKind.sensorStall)) ∧
      (∀ a : Axis,
        if raised a = true ∧ a ∈ order then hasPresent (t.axis a).faults .sensorStall = true
        else (t.axis a).faults = (s.axis a).faults ∧ (t.axis a).life = (s.axis a).life) ∧
      t.bias.activity = none ∧ t.bias.bias = s.bias.bias ∧
      (∀ m, s.bias.activity = some m →
        t.bias.validity = (if m = .long then s.bias.prior.getD s.bias.validity else s.bias.validity) ∧
          t.Events s (.biasAborted m .headStale s.bias.count)) ∧
      t.settings = s.settings ∧ t.vehicle = s.vehicle

/-- VEHICLE_LOST with a fresh vehicle sample sets its stale flag and queues EVENT VEHICLE_LOST; SETTLE_TIMER_EXPIRY with
the settle timer running makes validity VALID; SHOCK_WINDOW_END ends the shock.  Nothing else changes but what the
report does to the outbound queue (R25, R38, R39). -/
def Obligations.MeasurementTimersExpire : Prop :=
  ∀ s : State,
    (s.vehicle.stale = false →
      ∃ t, exec .vehicleLost s = .next t ∧ t.vehicle = { s.vehicle with stale := true } ∧
        t.Events s .vehicleLost ∧ { t with vehicle := s.vehicle, link := s.link } = s) ∧
    (s.bias.settle.isSome = true →
      exec .settleTimerExpiry s = .next { s with bias := { s.bias with validity := .valid, settle := none } }) ∧
    exec .shockWindowEnd s = .next { s with shock := { s.shock with active := false } }

/-- ENCODER_TRANSITION in which one phase changes moves the count by one with wrap: up when A rises while B is low, B
rises while A is high, A falls while B is high or B falls while A is low, and down otherwise.  A sample equal to the
previous one changes nothing of the inputs (R26). -/
def Obligations.EncoderTransitionCounts : Prop :=
  ∀ (s : State) (i : Input) (a b : Bool),
    let e := s.encoders.get i
    (a ≠ e.phaseA → b = e.phaseB →
      exec (.encoderTransition i a b) s =
        .next
          (s.modEncoder i fun e =>
            { e with count := if a = !b then e.count + 1 else e.count - 1, phaseA := a }).startTransmit) ∧
    (a = e.phaseA → b ≠ e.phaseB →
      exec (.encoderTransition i a b) s =
        .next
          (s.modEncoder i fun e =>
            { e with count := if b = a then e.count + 1 else e.count - 1, phaseB := b }).startTransmit) ∧
    (a = e.phaseA → b = e.phaseB → exec (.encoderTransition i a b) s = .next s.startTransmit)

/-- ILLEGAL_TRANSITION leaves the count, clears the homed flag and runs the hold for 10 ms from now; the sample it takes
has both phases inverted (the model's choice, log entry 27).  Where the hold did not run, ENCODER_FAULT is raised on the
mapped axis, and where it ran, or no axis is mapped, no axis changes.  ILLEGAL_HOLD_EXPIRY stops the hold and ends the
condition on the mapped axis (R26, R27). -/
def Obligations.IllegalTransitionRunsTheHold : Prop :=
  ∀ (s : State) (i : Input),
    (∃ t, exec (.illegalTransition i) s = .next t ∧
      t.encoders.get i =
        { s.encoders.get i with
          homed := false
          hold := some ⟨s.time, 10000⟩
          phaseA := !(s.encoders.get i).phaseA
          phaseB := !(s.encoders.get i).phaseB
          armed := (t.encoders.get i).armed } ∧
      (∀ a : Axis, (s.encoders.get i).hold = none → s.mappedAxis i = some a →
        hasPresent (t.axis a).faults .encoderFault = true) ∧
      ((s.encoders.get i).hold ≠ none ∨ s.mappedAxis i = none → t.axes = s.axes)) ∧
    ((s.encoders.get i).hold ≠ none →
      ∃ t, exec (.illegalHoldExpiry i) s = .next t ∧ t.encoders.get i = { s.encoders.get i with hold := none } ∧
        (∀ a : Axis,
          t.axis a =
            if s.mappedAxis i = some a then
              { s.axis a with
                faults :=
                  (s.axis a).faults.map fun e => if e.kind = .encoderFault then { e with present := false } else e }
            else s.axis a) ∧
        { t with axes := s.axes, encoders := s.encoders } = s)

/-- INDEX_EDGE with capture armed loads the count with the index reference of the mapped axis, sets the homed flag,
disarms capture and sets the axis's reload-pending flag; with capture not armed it changes nothing (R29). -/
def Obligations.IndexEdgeReloadsWhenArmed : Prop :=
  ∀ (s : State) (i : Input),
    (∀ a : Axis, (s.encoders.get i).armed = true → s.mappedAxis i = some a →
      ∃ t, exec (.indexEdge i) s = .next t ∧
        t.encoders.get i =
          { s.encoders.get i with count := BitVec.ofInt 32 (s.axis a).cfg.indexRef, homed := true, armed := false } ∧
        t.axis a = { s.axis a with meas := { (s.axis a).meas with reloadPending := true } } ∧
        (∀ j, j ≠ i → t.encoders.get j = s.encoders.get j) ∧ (∀ b, b ≠ a → t.axis b = s.axis b) ∧
        { t with axes := s.axes, encoders := s.encoders } = s) ∧
    ((s.encoders.get i).armed = false → exec (.indexEdge i) s = .next s)

/-! ### The axis -/

/-- AXIS_UPDATE in a powered state measures the axis: a JOINT axis takes floor(count × num / den) of its input and the
rate over its last five angles (all five refilled by an index reload), an INERTIAL axis integrates its signed,
bias-corrected gyro rate, 0 while the head is stale.  The reload-pending flag is clear after it, and an index reload that
it took has its EVENT HOMED; a staged gain record of mode NOW is copied into its sets.  If the axis is still powered when
the update ends, its update timer has restarted with T and u_out has been handed to the Drive Stage.  In TRACKING, where
neither the stale check nor a watch raises, the Sequencer adds T to the elapsed time of an active segment followed before,
unless a PAUSE holds; gives an active segment that has reached its duration COMPLETED, or TIMEOUT to a GOTO or HOME, and
a reloaded HOME COMPLETED; and activates a ready IMMEDIATE segment of no group, whose AT_SEGMENT gains are then copied,
the unbounded active segment before it being SUPERSEDED (R7, R29, R30, R31, R32, R48, R49, R50, R66, R68, R82, R104).  A
STREAM that is activated is LIVE, or LAPSED with EVENT STREAM_LAPSE where no rate is fresh, and the lapse state of one that
ends is cleared (R64).  A HOME that is activated records θs as its start angle and arms the capture of its input, which its
TIMEOUT disarms (R28, R49).  The segment that the update then follows, the one activated in it included, stays active with
its elapsed time, but that a GOTO within its window and rate is COMPLETED at once (R75), and that a HOME beyond its cap ends
with HOME_FAILED, its capture disarmed (R28, R81).  Whether a HOME with no start angle is beyond its cap is open (log entry
5), and a re-base to an angle beyond 32 bits takes a free value (log entry 3).  An activation, and what the active segment,
the lapse state and the capture become, are said where no segment waits behind the one so followed or ended. -/
def Obligations.AxisUpdateMeasuresAndHandsOff : Prop :=
  ∀ (s : State) (a : Axis), (s.axis a).life.powered = true →
    let x := s.axis a
    ∃ t, exec (.axisUpdate a) s = .next t ∧ (t.axis a).meas.reloadPending = false ∧
      (∀ i : Input, x.cfg.kind = .joint → x.cfg.encoder.toNat = i.val →
        let angle := Int.fdiv ((s.encoders.get i).count.toInt * x.cfg.num) x.cfg.den
        let history := if x.meas.reloadPending then List.replicate 5 angle else x.meas.history.drop 1 ++ [angle]
        (t.axis a).meas.theta = angle ∧ (t.axis a).meas.history = history ∧
          (t.axis a).meas.omega =
            clamp (Int.tdiv ((history.getD 4 0 - history.getD 0 0) * 1000000) (4 * x.cfg.period)) (-1500000) 1500000) ∧
      (x.cfg.kind = .inertial →
        let raw (r : Rates) : Int := match x.cfg.gyroChannel.toNat with | 0 => r.x | 1 => r.y | _ => r.z
        let omega :=
          if s.head.stale then 0
          else
            (if x.cfg.gyroSign = 0xFF then -1 else 1) *
              clamp (raw s.head.rates - raw s.bias.bias) (-1500000) 1500000
        let acc := x.meas.inertialRem + omega * x.cfg.period
        (t.axis a).meas.omega = omega ∧ (t.axis a).meas.theta = x.meas.inertial + Int.fdiv acc 1000000 ∧
          (t.axis a).meas.inertial = x.meas.inertial + Int.fdiv acc 1000000 ∧
          (t.axis a).meas.inertialRem = acc - 1000000 * Int.fdiv acc 1000000) ∧
      (∀ r, x.staged = some r → r.mode = .now →
        (t.axis a).staged = none ∧ (t.axis a).hold = (if r.target = .move then x.hold else r.gains) ∧
          (t.axis a).move = (if r.target = .hold then x.move else r.gains)) ∧
      ((t.axis a).life.powered = true →
        (t.axis a).updateTimer = some ⟨s.time, x.cfg.period.toNat⟩ ∧
          (t.axis a).drive.handed = (t.axis a).loop.uOut) ∧
      (x.meas.reloadPending = true → s.StallQuiet a →
        ∀ i : Input, x.cfg.encoder.toNat = i.val → t.Events s (.homed a i (t.axis a).meas.theta)) ∧
      (x.life = .tracking → s.StallQuiet a → s.WatchesQuiet a →
        let elapsed (c : ActiveSegment) : Int :=
          if c.followed = true ∧ s.stopLine.pause = false then c.elapsed + x.cfg.period else c.elapsed
        let ends (c : ActiveSegment) : Prop := c.seg.duration ≠ 0 ∧ c.seg.duration * 1000 ≤ elapsed c
        let plain (k : SegKind) : Prop := k = .hold ∨ k = .rate ∨ k = .stream
        let reloaded (c : ActiveSegment) : Prop := c.seg.kind = .home ∧ x.meas.reloadPending = true
        let told (c : ActiveSegment) (o : SegOutcome) : Prop :=
          c.seg.notify = true ∨ c.syncMissed = true →
            t.Reports (.segment a c.seg.tag o c.syncMissed true s.time s.sync.frame)
        let theta := if x.meas.reloadPending then angle32 (t.axis a).meas.theta else x.gen.theta
        let omega := if x.meas.reloadPending then 0 else x.gen.omega
        let arrives (g : Segment) : Prop :=
          s.stopLine.pause = false ∧ |g.value - theta| ≤ x.cfg.window ∧
            |omega| ≤ max 1 (Int.fdiv (g.accel * x.cfg.period) 1000000)
        let follows (c : ActiveSegment) (start : Option Int) (armed : Input → Bool) : Prop :=
          match c.seg.kind with
          | .hold | .rate | .stream => (t.axis a).active = some c
          | .goto =>
            if arrives c.seg then (t.axis a).active = none ∧ told c .completed else (t.axis a).active = some c
          | .home =>
            (((t.axis a).active = some c ∧ (t.axis a).gen.homeStart = start) ∨
              (s.stopLine.pause = false ∧ (t.axis a).active = none ∧ (t.axis a).gen.homeStart = none ∧
                t.Reports (.segment a c.seg.tag .homeFailed c.syncMissed true s.time s.sync.frame))) ∧
            (∀ b, start = some b → s.stopLine.pause = false →
              ((t.axis a).active = some c ↔ |(t.axis a).gen.theta - b| ≤ c.seg.cap)) ∧
            ∀ i : Input, x.cfg.encoder.toNat = i.val →
              (t.encoders.get i).armed = ((t.axis a).active.isSome && armed i)
        (∀ c, x.active = some c →
          (ends c → plain c.seg.kind → told c .completed) ∧
          (ends c → ¬plain c.seg.kind →
            t.Reports (.segment a c.seg.tag .timeout c.syncMissed true s.time s.sync.frame)) ∧
          (¬ends c → reloaded c → told c .completed) ∧
          (x.waiting = [] → ends c ∨ reloaded c →
            (t.axis a).active = none ∧ (c.seg.kind = .stream → (t.axis a).stream.lapse = .clear) ∧
              (c.seg.kind = .home → (t.axis a).gen.homeStart = none)) ∧
          (x.waiting = [] → ends c → c.seg.kind = .home →
            ∀ i : Input, x.cfg.encoder.toNat = i.val → (t.encoders.get i).armed = false) ∧
          (x.waiting = [] → ¬ends c → ¬reloaded c →
            follows { c with elapsed := elapsed c, followed := c.followed || !s.stopLine.pause } x.gen.homeStart fun i =>
              (s.encoders.get i).armed)) ∧
        ∀ g : Segment, x.waiting = [g] → g.group = 0 → g.start = .immediate →
          (∀ c, x.active = some c → ends c ∨ reloaded c ∨ (plain c.seg.kind ∧ c.seg.duration = 0)) →
            (t.axis a).waiting = [] ∧
              follows { seg := g, elapsed := 0, followed := !s.stopLine.pause, syncMissed := false }
                (if x.meas.reloadPending then none else some x.gen.theta) (fun _ => true) ∧
              (t.axis a).stream.lapse =
                (if g.kind = .stream then if x.stream.aged then .lapsed else .live
                else if x.streamTag.isSome then .clear
                else x.stream.lapse) ∧
              (g.kind = .stream → x.stream.aged = true → t.Events s (.streamLapse a g.tag)) ∧
              (∀ c, x.active = some c → ¬ends c → plain c.seg.kind → told c .superseded) ∧
              ∀ r, x.staged = some r → r.mode = .atSegment →
                (t.axis a).staged = none ∧ (t.axis a).hold = (if r.target = .move then x.hold else r.gains) ∧
                  (t.axis a).move = (if r.target = .hold then x.move else r.gains))

/-- FAULT_RAISE on a configured axis makes an entry at the tail with the stored level, count 1 and the time, or re-raises
the entry of the kind (count up to 255, level the greater, place and first time kept).  The entry's condition is present,
but that an OVERCURRENT on an axis left IDLE is clear by the end of the raise, that the conditions of the loop's watches
end where the reaction stops the loop, and that a raise that waited for a condition that has ended since leaves it clear.
The axis state becomes what R16 gives for the entry's level: BRAKE leaves a powered axis FAULTED with SHORT pending and
its brake engaged, and OPEN leaves a configured axis in OPEN at once; on entry into FAULTED the queue is gone with a
report of STOPPED_BY_FAULT for each segment, the staged gain record is discarded, the timers run no more and the loop is
stopped; on an IDLE axis BRAKE and OPEN abort a running drive test with OPEN at once and TEST_DONE.  A FAULT report with
the entry as it then stands is queued, and the raise no longer waits.  On a DISABLED axis nothing is raised (R7, R16, R19,
R100, R119, R120, R123, R124, R126, R127, R128).  That the command may raise any kind, that OPEN acts on an IDLE axis with
no test and clears its pending request, that an OVERCURRENT on such an axis is clear, and how a raise waits are the
model's choices (log entries 9, 29, 30 and 40). -/
def Obligations.RaiseMakesTheEntryAndReacts : Prop :=
  ∀ (s : State) (a : Axis) (k : FaultKind),
    let x := s.axis a
    ((x.life = .disabled) →
      exec (.faultRaise a k) s = .next (State.startTransmit { s with owed := s.owed.erase (a, k) })) ∧
    (x.life ≠ .disabled →
      let old := x.faults.find? fun e => e.kind == k
      let level := match old with
        | none => s.reactions.get k
        | some e => if e.level.code ≤ (s.reactions.get k).code then s.reactions.get k else e.level
      let count := match old with
        | none => 1
        | some e => if e.count < 255 then e.count + 1 else e.count
      let first := match old with
        | none => s.time
        | some e => e.firstRaise
      let faults : Prop := (level = .brake ∨ level = .open) ∧ x.life.powered = true
      let stops : Prop := level = .stop ∧ (x.life = .arming ∨ x.life = .tracking)
      let tests : Prop := (level = .brake ∨ level = .open) ∧ x.life = .idle ∧ x.test.running = true
      let ended : Prop :=
        (a, k) ∈ s.owed ∧
          match k with
          | .sensorStall => s.head.stale = false ∨ x.cfg.kind ≠ .inertial
          | .busUndervolt => s.bus.undervolt = false
          | .busOvervolt => s.bus.overvolt = false
          | .linkSilence => s.link.silence ≠ none
          | .stopLine => s.stopLine.mode ≠ some .latch
          | .overcurrent | .tracking | .saturation | .limitOverrun | .encoderFault => False
      ∃ t, exec (.faultRaise a k) s = .next t ∧ t.owed = s.owed.erase (a, k) ∧
        (t.axis a).faults.map (·.kind) =
          (if old.isSome then x.faults.map (·.kind) else x.faults.map (·.kind) ++ [k]) ∧
        (∃ e, ((t.axis a).faults.find? fun e => e.kind == k) = some e ∧ e.level = level ∧ e.count = count ∧
          e.firstRaise = first ∧
          (e.present = false ↔
            (k = .overcurrent ∧ x.life = .idle) ∨
              ((k = .tracking ∨ k = .saturation ∨ k = .limitOverrun) ∧ faults) ∨ ended)) ∧
        (t.axis a).life =
          (match level with
          | .note | .derate => x.life
          | .stop =>
            match x.life with
            | .arming | .tracking => .stopping .fault .decel
            | .stopping .stop .decel => .stopping .fault .decel
            | l => l
          | .brake | .open => if x.life.powered then .faulted else x.life) ∧
        (level = .brake → x.life.powered = true →
          (t.axis a).drive.pending = some .short ∧ (t.axis a).drive.brakeReleased = false) ∧
        (level = .open →
          (t.axis a).drive.state = .open ∧ (t.axis a).drive.pending = none ∧ (t.axis a).drive.duty = 0 ∧
            (x.life.powered = true → (t.axis a).drive.brakeReleased = false)) ∧
        (faults →
          (t.axis a).staged = none ∧ (t.axis a).armingTimer = none ∧ (t.axis a).engageTimer = none ∧
            (t.axis a).updateTimer = none ∧ (t.axis a).drive.handed = 0 ∧ (t.axis a).loop.uOut = 0 ∧
            (t.axis a).loop.trackTimer = 0 ∧ (t.axis a).loop.satTimer = 0 ∧
            (t.axis a).loop.saturated = false ∧ (t.axis a).loop.overrun = .notChecked) ∧
        (faults ∨ stops →
          (t.axis a).waiting = [] ∧ (t.axis a).active = none ∧
            (∀ g ∈ x.waiting, t.Reports (.segment a g.tag .stoppedByFault false false s.time s.sync.frame)) ∧
            ∀ c, x.active = some c →
              t.Reports (.segment a c.seg.tag .stoppedByFault c.syncMissed true s.time s.sync.frame)) ∧
        (stops → (t.axis a).armingTimer = none) ∧
        (tests →
          (t.axis a).test.running = false ∧ (t.axis a).drive.state = .open ∧ (t.axis a).drive.pending = none ∧
            (t.axis a).drive.duty = 0 ∧
            t.Events s
              (.testDone a x.test.peak (if x.test.count = 0 then 0 else x.test.sum / x.test.count) true)) ∧
        (¬tests → (t.axis a).test = x.test) ∧
        t.Reports
          (.fault a k level count (effectiveLevel (t.axis a).faults) (t.axis a).life s.time s.sync.frame))

/-- ARMING_TIMER_EXPIRY in ARMING makes the axis TRACKING with EVENT ARMED; ENGAGE_TIMER_EXPIRY in ENGAGE makes it IDLE
with OPEN pending, its loop and update timer stopped, its staged record discarded, and EVENT DISARMED; DRIVE_TEST_END
ends a running test with OPEN pending and EVENT TEST_DONE of its peak and mean; STREAM_LAPSE with the stream timer
running sets the aged mark and makes a LIVE active STREAM segment LAPSED (R7, R10, R14, R19, R64). -/
def Obligations.AxisTimersExpire : Prop :=
  ∀ (s : State) (a : Axis),
    let x := s.axis a
    (x.life = .arming →
      ∃ t, exec (.armingTimerExpiry a) s = .next t ∧ (t.axis a).life = .tracking ∧ (t.axis a).armingTimer = none ∧
        (t.axis a).drive = x.drive ∧ (t.axis a).faults = x.faults ∧ (t.axis a).updateTimer = x.updateTimer ∧
        t.Events s (.armed a) ∧ ∀ b, b ≠ a → (t.axis b).life = (s.axis b).life ∧ (t.axis b).drive = (s.axis b).drive) ∧
    (x.life = .stopping .disarm .engage →
      ∃ t, exec (.engageTimerExpiry a) s = .next t ∧ (t.axis a).life = .idle ∧
        (t.axis a).drive = { x.drive with pending := some .open, handed := 0 } ∧ (t.axis a).updateTimer = none ∧
        (t.axis a).engageTimer = none ∧ (t.axis a).staged = none ∧ (t.axis a).loop.uOut = 0 ∧
        (t.axis a).loop.trackTimer = 0 ∧ (t.axis a).loop.satTimer = 0 ∧ t.Events s (.disarmed a) ∧
        ∀ b, b ≠ a → t.axis b = s.axis b) ∧
    (x.test.running = true →
      ∃ t, exec (.driveTestEnd a) s = .next t ∧
        t.axis a =
          { x with test := { x.test with running := false }, drive := { x.drive with pending := some .open } } ∧
        t.Events s (.testDone a x.test.peak (if x.test.count = 0 then 0 else x.test.sum / x.test.count) false) ∧
        (∀ b, b ≠ a → t.axis b = s.axis b) ∧ { t with axes := s.axes, link := s.link } = s) ∧
    (x.stream.timer.isSome = true →
      ∃ t, exec (.streamLapse a) s = .next t ∧
        t.axis a =
          { x with
            stream :=
              { x.stream with
                aged := true
                timer := none
                lapse := if x.streamTag.isSome ∧ x.stream.lapse = .live then .lapsed else x.stream.lapse } } ∧
        (∀ tag, x.streamTag = some tag → x.stream.lapse = .live → t.Events s (.streamLapse a tag)) ∧
        (∀ b, b ≠ a → t.axis b = s.axis b) ∧ { t with axes := s.axes, link := s.link } = s)

/-- The rate step of an update is max(1, floor(a × T / 1,000,000)); the rate moves toward its target by at most that
step and never passes it; and the integration advances θs by floor((r + ωs × T) / 1,000,000) with a remainder in
0..999,999, holding θs at a 32-bit bound it would pass, with rate and remainder 0 (R76, R77).  AXIS_UPDATE, where neither
the stale check nor a watch raises, makes the pause re-base under a PAUSE.  Otherwise, with no segment waiting behind the one it
follows, which is the active one unless the Sequencer step ends it or activates the one behind it (R48), it takes the target
of the segment followed (R73, R75), restricts it and the rate by the soft limits in force (R78, R79), steps, integrates, stops at a limit it would pass and keeps the latch of it
(R80), from the re-based angle after an index reload (R82); a GOTO that has arrived ends the motion on its target and is
COMPLETED (R75), and a HOME that has travelled beyond its cap ends with HOME_FAILED (R81).  A phase DECEL ends with the
setpoint rate 0, toward its intent (R13).  A re-base to an angle beyond 32 bits takes a free value (log entry 3). -/
def Obligations.RateStepAndIntegration : Prop :=
  (∀ a period : Int, rateStepSize a period = max 1 (Int.fdiv (a * period) 1000000)) ∧
  (∀ omega w step : Int, 0 < step →
    (|w - omega| ≤ step → stepRate omega w step = w) ∧
    (step < |w - omega| → omega < w → stepRate omega w step = omega + step ∧ stepRate omega w step < w) ∧
    (step < |w - omega| → w < omega → stepRate omega w step = omega - step ∧ w < stepRate omega w step)) ∧
  (∀ theta rem omega period : Int,
    let next := theta + Int.fdiv (rem + omega * period) 1000000
    (-2147483648 ≤ next → next ≤ 2147483647 →
      integrate theta rem omega period =
          { theta := next, rem := rem + omega * period - 1000000 * Int.fdiv (rem + omega * period) 1000000
            omega := omega } ∧
        0 ≤ (integrate theta rem omega period).rem ∧ (integrate theta rem omega period).rem ≤ 999999) ∧
    (2147483647 < next → integrate theta rem omega period = { theta := 2147483647, rem := 0, omega := 0 }) ∧
    (next < -2147483648 → integrate theta rem omega period = { theta := -2147483648, rem := 0, omega := 0 })) ∧
  ∀ (s : State) (a : Axis), (s.axis a).life.powered = true → s.StallQuiet a → s.WatchesQuiet a →
    let x := s.axis a
    ∃ t, exec (.axisUpdate a) s = .next t ∧
      (∀ i, x.life = .stopping i .decel →
        ((t.axis a).gen.omega ≠ 0 → (t.axis a).life = x.life) ∧
        ((t.axis a).gen.omega = 0 →
          match i with
          | .stop => (t.axis a).life = .tracking ∧ t.Events s (.stopped a)
          | .fault => (t.axis a).life = .held
          | .disarm =>
            (t.axis a).life = .stopping .disarm .engage ∧ (t.axis a).drive.brakeReleased = false ∧
              (t.axis a).engageTimer = some ⟨s.time, x.cfg.engageTime.toNat * 1000⟩)) ∧
      ((∀ i, x.life ≠ .stopping i .decel) → (t.axis a).life = x.life) ∧
      (s.stopLine.pause = true →
        (t.axis a).gen.theta = angle32 (t.axis a).meas.theta ∧ (t.axis a).gen.rem = 0 ∧
          (t.axis a).gen.omega = 0 ∧ (t.axis a).gen.target = 0 ∧ (t.axis a).gen.moving = false ∧
          (t.axis a).gen.latch = x.gen.latch) ∧
      (s.stopLine.pause = false →
        let elapsed (c : ActiveSegment) : Int := if c.followed then c.elapsed + x.cfg.period else c.elapsed
        let ended (c : ActiveSegment) : Bool :=
          decide (c.seg.duration ≠ 0 ∧ c.seg.duration * 1000 ≤ elapsed c) ||
            (decide (c.seg.kind = .home) && x.meas.reloadPending)
        let unbounded (c : ActiveSegment) : Bool :=
          decide ((c.seg.kind = .hold ∨ c.seg.kind = .rate ∨ c.seg.kind = .stream) ∧ c.seg.duration = 0)
        let still : Option ActiveSegment := x.active.filter fun c => !ended c
        let started : Option Segment := match x.waiting with
          | [g] => if still.all unbounded ∧ g.group = 0 ∧ g.start = .immediate then some g else none
          | _ => none
        x.waiting = started.toList →
          let followed : Option ActiveSegment :=
            if x.life = .tracking then
              match started with
              | some g => some { seg := g, elapsed := 0, followed := true, syncMissed := false }
              | none => still
            else none
          let start : Option Int := if started.isSome then some x.gen.theta else x.gen.homeStart
          let live : Bool := if started.isSome then !x.stream.aged else decide (x.stream.lapse = .live)
          let seg : Option Segment := followed.map (·.seg)
          let theta := if x.meas.reloadPending then angle32 (t.axis a).meas.theta else x.gen.theta
          let rem := if x.meas.reloadPending then 0 else x.gen.rem
          let omega := if x.meas.reloadPending then 0 else x.gen.omega
          let accel := match seg with | none => x.cfg.accelLimit | some g => g.accel
          let step := max 1 (Int.fdiv (accel * x.cfg.period) 1000000)
          let arrives (g : Segment) : Prop :=
            g.kind = .goto ∧ |g.value - theta| ≤ x.cfg.window ∧ |omega| ≤ step
          (∀ g, seg = some g → arrives g →
            (t.axis a).gen.theta = g.value ∧ (t.axis a).gen.rem = 0 ∧ (t.axis a).gen.omega = 0 ∧
              (t.axis a).gen.target = 0 ∧ (t.axis a).gen.moving = false ∧ (t.axis a).active = none ∧
              ∀ c, followed = some c → c.seg.notify = true ∨ c.syncMissed = true →
                t.Reports (.segment a g.tag .completed c.syncMissed true s.time s.sync.frame)) ∧
          ((∀ g, seg = some g → ¬arrives g) →
            let limited : Prop :=
              x.cfg.kind = .joint ∧ (∀ g, seg = some g → g.kind ≠ .home) ∧
                ∃ i : Input, x.cfg.encoder.toNat = i.val ∧ (s.encoders.get i).homed = true
            let lo := x.cfg.limMin
            let hi := x.cfg.limMax
            let free : Int :=
              match seg with
              | none => 0
              | some g =>
                match g.kind with
                | .hold => 0
                | .rate | .home => g.value
                | .stream => if live then x.stream.rate else 0
                | .goto =>
                  let d := g.value - theta
                  if 0 < omega * Int.sign d ∧ |d| ≤ Int.fdiv (omega * omega) (2 * g.accel) then 0
                  else Int.sign d * g.cap
            let brake := Int.fdiv (omega * omega) (2 * x.cfg.accelLimit)
            let near : Int :=
              if 0 < omega ∧ hi ≤ theta + brake then min free 0
              else if omega < 0 ∧ theta - brake ≤ lo then max free 0
              else free
            let kept : Int := if hi < theta then min near 0 else if theta < lo then max near 0 else near
            let rate : Int := if (hi < theta ∧ 0 < omega) ∨ (theta < lo ∧ omega < 0) then 0 else omega
            ∃ (w v : Int) (p : Setpoint),
              ((limited ∧ w = kept ∧ v = rate) ∨ (¬limited ∧ w = free ∧ v = omega)) ∧
                p = integrate theta rem (stepRate v w step) x.cfg.period ∧
                (t.axis a).gen.target = w ∧
                (t.axis a).gen.moving = decide ((t.axis a).gen.omega ≠ 0 ∨ w ≠ 0) ∧
                (limited → lo ≤ theta → theta ≤ hi → hi < p.theta →
                  (t.axis a).gen.theta = hi ∧ (t.axis a).gen.rem = 0 ∧ (t.axis a).gen.omega = 0 ∧
                    (t.axis a).gen.latch = some .max ∧
                    (x.gen.latch ≠ some .max → t.Events s (.limitStop a .max hi))) ∧
                (limited → lo ≤ theta → theta ≤ hi → p.theta ≤ hi → p.theta < lo →
                  (t.axis a).gen.theta = lo ∧ (t.axis a).gen.rem = 0 ∧ (t.axis a).gen.omega = 0 ∧
                    (t.axis a).gen.latch = some .min ∧
                    (x.gen.latch ≠ some .min → t.Events s (.limitStop a .min lo))) ∧
                (¬limited ∨ theta < lo ∨ hi < theta ∨ (lo ≤ p.theta ∧ p.theta ≤ hi) →
                  (t.axis a).gen.theta = p.theta ∧ (t.axis a).gen.rem = p.rem ∧
                    (t.axis a).gen.omega = p.omega ∧
                    (t.axis a).gen.latch =
                      match x.gen.latch with
                      | none => none
                      | some .max => if p.theta = hi then some .max else none
                      | some .min => if p.theta = lo then some .min else none) ∧
                ∀ (g : Segment) (b : Int), seg = some g → g.kind = .home → x.meas.reloadPending = false →
                  start = some b →
                    (g.cap < |(t.axis a).gen.theta - b| →
                      (t.axis a).active = none ∧ (t.axis a).gen.homeStart = none ∧
                        ∃ missed, t.Reports (.segment a g.tag .homeFailed missed true s.time s.sync.frame)) ∧
                    (|(t.axis a).gen.theta - b| ≤ g.cap → (t.axis a).active.isSome = true)))

/-- An unpaused loop computation keeps its output within the drive limit in force, within the slew of the output before
wherever that lies within the limit, keeps the integrator within ±256,000, and keeps the integrator as it was where an
increment would push the unlimited output farther beyond the limit (R91, R92, R93, R94).  AXIS_UPDATE of an axis whose
stale check raises nothing, and that is powered when the update ends, writes the vehicle rate into the delay line (R88)
and leaves the loop as the computation of R86 to R94 gives it, from the setpoint and the measured values of this update
and the gain sets as stage 1 left them, or as R99 gives it under a PAUSE; the tracking and saturation timers count by T up
to their full values, raising at them, and are 0, with the condition ended, where nothing counts (R95, R96); and the
overrun check finds what the joint angle is against the widened limits (R97).  That a record copied by a later stage of
the same update is not yet used is read from R85 by inference (log entry 44). -/
def Obligations.LoopOutputStaysWithinTheLimit : Prop :=
  (∀ (x : AxisState) (l : Loop) (ff derate : Int) (riding : Bool),
    0 ≤ x.cfg.torque → 0 ≤ derate → 0 < x.cfg.slew → -256000 ≤ l.integ → l.integ ≤ 256000 →
      let limit := x.driveLimit derate
      let inc := x.increment (x.rateError ff) riding
      let next := clamp (l.integ + inc) (-256000) 256000
      let u := x.proportional (x.rateError ff) + Int.tdiv next 256 + x.cfg.bias
      let out := loopCompute x l ff derate riding
      0 ≤ limit ∧ -limit ≤ out.uOut ∧ out.uOut ≤ limit ∧ out.uPrev = out.uOut ∧
        -256000 ≤ out.integ ∧ out.integ ≤ 256000 ∧
        (-limit ≤ l.uPrev → l.uPrev ≤ limit →
          l.uPrev - x.cfg.slew ≤ out.uOut ∧ out.uOut ≤ l.uPrev + x.cfg.slew) ∧
        (if (limit < u ∧ 0 < inc) ∨ (u < -limit ∧ inc < 0) then out.integ = l.integ else out.integ = next)) ∧
  ∀ (s : State) (a : Axis), (s.axis a).life.powered = true → s.StallQuiet a →
    let x := s.axis a
    let l := x.loop
    let riding : Prop := x.cfg.shockRide ≠ 0 ∧ s.shock.active = true
    let fullTrack := x.cfg.trackTime * 1000
    let fullSat := x.cfg.satTime * 1000
    ∃ t, exec (.axisUpdate a) s = .next t ∧
      ((t.axis a).life.powered = true →
        let y := t.axis a
        let head := (l.head + 1) % 16
        let vehicle : Int :=
          match x.cfg.vehChannel.toNat with
          | 1 => s.vehicle.rates.x
          | 2 => s.vehicle.rates.y
          | _ => s.vehicle.rates.z
        let silent : Prop := x.cfg.vehChannel = 0 ∨ s.vehicle.stale = true
        (silent → y.loop.line = l.line.set head 0) ∧ (¬silent → y.loop.line = l.line.set head vehicle) ∧
        y.loop.head = head ∧
        (s.stopLine.pause = true →
          y.loop.integ = 0 ∧ y.loop.uPrev = 0 ∧ y.loop.uOut = 0 ∧ y.loop.saturated = false ∧
            y.loop.moveSet = false ∧ y.loop.paused = true ∧ y.loop.trackTimer = l.trackTimer ∧
            y.loop.satTimer = l.satTimer) ∧
        (s.stopLine.pause = false →
          let hold : Gains :=
            match x.staged with
            | none => x.hold
            | some r => if r.mode = .now ∧ r.target ≠ .move then r.gains else x.hold
          let move : Gains :=
            match x.staged with
            | none => x.move
            | some r => if r.mode = .now ∧ r.target ≠ .hold then r.gains else x.move
          let g := if y.gen.moving = true then move else hold
          let ef := y.gen.theta - y.meas.theta
          let slew := x.cfg.slew
          ∃ ff inc : Int,
            (silent → ff = 0) ∧
              (¬silent → ff =
                Int.tdiv
                  ((if x.cfg.vehSign = 0xFF then -1 else 1) * x.cfg.ffGain *
                    y.loop.line.getD ((head + 16 - x.cfg.tap.toNat % 16) % 16) 0) 1024) ∧
              let demand :=
                clamp (y.gen.omega + Int.tdiv (g.kp * clamp ef (-x.cfg.errClamp) x.cfg.errClamp) 1024 + ff)
                  (-x.cfg.rateLimit) x.cfg.rateLimit
              let er := demand - y.meas.omega
              (riding → inc = 0) ∧ (¬riding → inc = Int.tdiv (g.ki * er) 4096) ∧
                let limit :=
                  Int.fdiv (x.cfg.torque * s.bus.derate * (if 1 ≤ (effectiveLevel x.faults).code then 500 else 1000))
                    1000000
                let next := clamp (l.integ + inc) (-256000) 256000
                let tried := Int.tdiv (g.kr * er) 65536 + Int.tdiv next 256 + x.cfg.bias
                let integ := if (limit < tried ∧ 0 < inc) ∨ (tried < -limit ∧ inc < 0) then l.integ else next
                let u := Int.tdiv (g.kr * er) 65536 + Int.tdiv integ 256 + x.cfg.bias
                let slewed := clamp (clamp u (-limit) limit) (l.uPrev - slew) (l.uPrev + slew)
                let out := if slewed < -limit ∨ limit < slewed then clamp slewed (-limit) limit else slewed
                y.loop.integ = integ ∧ y.loop.uOut = out ∧ y.loop.uPrev = out ∧
                  y.loop.saturated = decide (out ≠ u) ∧ y.loop.moveSet = y.gen.moving ∧ y.loop.paused = false ∧
                  (riding → y.loop.trackTimer = l.trackTimer) ∧
                  (¬riding →
                    y.loop.trackTimer =
                        (if x.cfg.trackLimit < |ef| then min (l.trackTimer + x.cfg.period) fullTrack else 0) ∧
                      (l.trackTimer < fullTrack → y.loop.trackTimer = fullTrack →
                        hasPresent y.faults .tracking = true) ∧
                      (y.loop.trackTimer = 0 → 0 < fullTrack → hasPresent y.faults .tracking = false)) ∧
                  y.loop.satTimer = (if out ≠ u then min (l.satTimer + x.cfg.period) fullSat else 0) ∧
                  (l.satTimer < fullSat → y.loop.satTimer = fullSat → hasPresent y.faults .saturation = true) ∧
                  (y.loop.satTimer = 0 → 0 < fullSat → hasPresent y.faults .saturation = false)) ∧
        (x.waiting = [] → (∀ c, x.active = some c → c.seg.kind ≠ .home) →
          (∀ i : Input, x.cfg.encoder.toNat = i.val → (s.encoders.get i).homed = true →
            let j := Int.fdiv ((s.encoders.get i).count.toInt * x.cfg.num) x.cfg.den
            (j < x.cfg.limMin - x.cfg.margin ∨ x.cfg.limMax + x.cfg.margin < j →
              y.loop.overrun = .beyond ∧ hasPresent y.faults .limitOverrun = true) ∧
            (x.cfg.limMin - x.cfg.margin ≤ j → j ≤ x.cfg.limMax + x.cfg.margin →
              y.loop.overrun = .inside ∧ hasPresent y.faults .limitOverrun = false)) ∧
          ((∀ i : Input, x.cfg.encoder.toNat = i.val → (s.encoders.get i).homed = false) →
            y.loop.overrun = .notChecked ∧ hasPresent y.faults .limitOverrun = false)))

/-- The mark check of an update queues one MARK report for each enabled mark that the measured angle crossed in an
admitted direction, and disables a mark of mode ONCE at its report; a mark that was not crossed stays as it was (R140,
R142).  AXIS_UPDATE of an axis whose stale check raises nothing makes that check between the measured angle of the update
before and its own, but for the first update after an arming and one that took an index reload, which make none; either
way the check after it is not skipped (R140, R141, R142). -/
def Obligations.MarkCheckReportsCrossings : Prop :=
  (∀ (s : State) (a : Axis) (p : Int), (s.axis a).markSkip = false →
    let c := (s.axis a).meas.theta
    ∀ (id : Fin 4) (m : Mark), (s.axis a).marks.get id = some m →
      let up := decide (p < m.angle ∧ m.angle ≤ c)
      let down := decide (m.angle < p ∧ c ≤ m.angle)
      let crossed := m.enabled &&
        match m.direction with
        | .up => up
        | .down => down
        | .either => up || down
      if crossed then
        ((s.markStage a p false).axis a).marks.get id =
            some (match m.mode with | .once => { m with enabled := false } | .repeat => m) ∧
          (s.markStage a p false).Reports (.mark a id (if up then .up else .down) s.time s.sync.frame c)
      else ((s.markStage a p false).axis a).marks.get id = some m) ∧
  ∀ (s : State) (a : Axis), (s.axis a).life.powered = true → s.StallQuiet a →
    ∃ t, exec (.axisUpdate a) s = .next t ∧ (t.axis a).markSkip = false ∧
      ((s.axis a).markSkip = true ∨ (s.axis a).meas.reloadPending = true → (t.axis a).marks = (s.axis a).marks) ∧
      ((s.axis a).markSkip = false → (s.axis a).meas.reloadPending = false →
        let p := (s.axis a).meas.theta
        let c := (t.axis a).meas.theta
        ∀ id : Fin 4,
          ((s.axis a).marks.get id = none → (t.axis a).marks.get id = none) ∧
          ∀ m : Mark, (s.axis a).marks.get id = some m →
            let up := decide (p < m.angle ∧ m.angle ≤ c)
            let down := decide (m.angle < p ∧ c ≤ m.angle)
            let crossed := m.enabled &&
              match m.direction with
              | .up => up
              | .down => down
              | .either => up || down
            if crossed then
              (t.axis a).marks.get id =
                  some (match m.mode with | .once => { m with enabled := false } | .repeat => m) ∧
                t.Reports (.mark a id (if up then .up else .down) s.time s.sync.frame c)
            else (t.axis a).marks.get id = some m)

/-! ### The device-wide blocks -/

/-- LINK_SILENCE with the timer running stops the timer and raises LINK_SILENCE on every configured axis (R119, R153).
Which of the raises are taken at this event and in which order is the command's; each of the others waits, to be taken
at an event of its own (the model's form of R119, log entry 9). -/
def Obligations.LinkSilenceRaisesOnEveryAxis : Prop :=
  ∀ (s : State) (order : List Axis), s.link.silence.isSome = true →
    ∃ t, exec (.linkSilence order) s = .next t ∧ t.link.silence = none ∧ t.link.inbound = s.link.inbound ∧
      t.settings = s.settings ∧
      t.owed = s.owed ++
        ([0, 1, 2, 3].filter fun a : Axis => (s.axis a).life != .disabled && !order.contains a).map
          (fun a => (a, FaultKind.linkSilence)) ∧
      ∀ a : Axis,
        if (s.axis a).life ≠ .disabled ∧ a ∈ order then hasPresent (t.axis a).faults .linkSilence = true
        else (t.axis a).faults = (s.axis a).faults ∧ (t.axis a).life = (s.axis a).life

/-- FRAME_SYNC_EDGE to a new level: an edge the selection does not count changes only the level; a counted edge moves the
frame counter on, stamps the edge, restarts the 100 ms loss timer, makes sync present (with EVENT SYNC_RESTORED when it
was absent), and decrements every counting segment and group; one that reaches 0 starts, a segment of no group becoming
active on its axis, and a group firing on all its members.  SYNC_LOST with the loss timer running makes sync absent with
EVENT SYNC_LOST, and starts every counting segment and group with SYNC_MISSED (R54, R55, R57, R58, R135, R136, R137). -/
def Obligations.SyncEdgesCountAndLossStarts : Prop :=
  ∀ s : State,
    (∀ level : Bool, level ≠ s.sync.level →
      let counted := match s.settings.edge with
        | .off => false
        | .rising => level
        | .falling => !level
        | .both => true
      (counted = false → exec (.frameSyncEdge level) s = .next { s with sync := { s.sync with level := level } }) ∧
      (counted = true →
        ∃ t, exec (.frameSyncEdge level) s = .next t ∧
          t.sync =
            { level := level, frame := s.sync.frame + 1, lastEdge := some s.time, present := true
              lossTimer := some ⟨s.time, 100000⟩ } ∧
          (s.sync.present = false → t.Reports (.event s.time (s.sync.frame + 1) (.syncRestored (s.sync.frame + 1)))) ∧
          (s.groups = [] → ∀ a : Axis,
            (∀ n, (s.axis a).counting = some (n + 2) →
              (t.axis a).counting = some (n + 1) ∧ (t.axis a).active = (s.axis a).active ∧
                (t.axis a).waiting = (s.axis a).waiting) ∧
            (∀ g rest, (s.axis a).counting = some 1 → (s.axis a).waiting = g :: rest →
              (t.axis a).active = some { seg := g, elapsed := 0, followed := false, syncMissed := false } ∧
                (t.axis a).waiting = rest)) ∧
          ((∀ (a : Axis) (n : Nat), (s.axis a).counting = some n → 2 ≤ n) →
            (∀ e ∈ s.groups, ∀ n, e.remaining = some n → 2 ≤ n) →
              t.groups = s.groups.map (fun e => { e with remaining := e.remaining.map (· - 1) }) ∧
                ∀ a : Axis, t.axis a = { s.axis a with counting := (s.axis a).counting.map (· - 1) }) ∧
          (∀ e : GroupEntry, s.groups = [e] → e.remaining = some 1 →
            t.groups = [] ∧ ∀ (a : Axis) (g : Segment), e.members.getLsbD a.val = true → (s.axis a).waiting = [g] →
              (t.axis a).active = some { seg := g, elapsed := 0, followed := false, syncMissed := false } ∧
                (t.axis a).waiting = []))) ∧
    (s.sync.lossTimer.isSome = true →
      ∃ t, exec .syncLost s = .next t ∧ t.sync = { s.sync with present := false, lossTimer := none } ∧
        t.Events s (.syncLost s.sync.frame s.sync.lastEdge) ∧
        (s.groups = [] → ∀ (a : Axis) (n : Nat) (g : Segment), (s.axis a).counting = some n →
          (s.axis a).waiting = [g] →
            (t.axis a).active = some { seg := g, elapsed := 0, followed := false, syncMissed := true } ∧
              (t.axis a).waiting = [] ∧ (t.axis a).counting = none) ∧
        (∀ e : GroupEntry, s.groups = [e] → e.remaining.isSome = true →
          t.groups = [] ∧ ∀ (a : Axis) (g : Segment), e.members.getLsbD a.val = true → (s.axis a).waiting = [g] →
            (t.axis a).active = some { seg := g, elapsed := 0, followed := false, syncMissed := true } ∧
              (t.axis a).waiting = []))

/-- TELEMETRY with the interval timer running queues one report of the device and of each axis of the mask, composed from
the state that stands, and starts the timer again; the measured angle of an axis that is not powered is the joint angle
of now or the inertial angle held, and 0 when DISABLED; outside the powered states ωm and u_out read 0 and the loop's
flags clear (R30, R33, R151, R163). -/
def Obligations.TelemetryComposesOneReport : Prop :=
  ∀ s : State, s.link.telemetryTimer.isSome = true →
    ∃ theta : Axis → Int, (∀ a : Axis, s.ReportsAngle a (theta a)) ∧
      let entry (a : Axis) : TelemetryEntry :=
        let x := s.axis a
        { life := x.life
          thetaS := x.gen.theta
          thetaM := theta a
          omegaM := if x.life.powered then x.meas.omega else 0
          uOut := if x.life.powered then x.loop.uOut else 0
          current := x.drive.lastCurrent
          saturated := x.life.powered && x.loop.saturated
          paused := x.life.powered && x.loop.paused
          moveSet := x.life.powered && x.loop.moveSet
          limitStop := x.life.configured && x.gen.latch.isSome
          activeTag := x.active.map fun c => c.seg.tag
          depth := x.waiting.length + if x.active.isSome then 1 else 0 }
      let report : Report :=
        .telemetry s.time s.sync.frame s.shock.active s.stopLine.asserted s.bus.voltage s.link.telemetryMask
          (([0, 1, 2, 3].filter fun a : Axis => s.link.telemetryMask.getLsbD a.val).map entry)
      ∃ t, exec .telemetry s = .next t ∧
        t.link.telemetryTimer =
          (if s.link.telemetryCode = 0 then none
          else some ⟨s.time, (telemetryMs s.link.telemetryCode).toNat * 1000⟩) ∧
        ({ t with link := s.link } = s) ∧
        (report ∈ t.link.reports ∨ t.link.tx.map (·.frame) = some (.report report) ∨
          (12 ≤ s.link.reports.length ∧ s.link.reports.any Report.isTelemetry = false ∧
            t.link.reportsLost = s.link.reportsLost))

/-- BUS_SAMPLE stores the reading clamped to 0..1000 and the D_bus of R112 (1000 from V_derate up, 0 from V_cut down,
linear with floor between), evaluates both conditions and starts the next 1 ms: a condition present is raised on every
configured axis that has no present entry of it, a condition absent is cleared on every entry of its kind (R111, R112,
R113).  Which of the raises are taken at this event and in which order is the command's; each of the others waits, to be
taken at an event of its own (the model's form of R119, log entry 9). -/
def Obligations.BusSampleDeratesAndRaises : Prop :=
  ∀ (s : State) (reading : Int) (order : List Axis),
    let v := clamp reading 0 1000
    let x := s.settings
    let waits (k : FaultKind) (b : Bool) : List (Axis × FaultKind) :=
      ([0, 1, 2, 3].filter fun a : Axis =>
        b && (s.axis a).life != .disabled && !hasPresent (s.axis a).faults k && !order.contains a).map fun a => (a, k)
    ∃ t, exec (.busSample reading order) s = .next t ∧
      t.bus =
        { voltage := v
          derate :=
            if x.vDerate ≤ v then 1000
            else if v ≤ x.vCut then 0
            else Int.fdiv (1000 * (v - x.vCut)) (x.vDerate - x.vCut)
          sampled := true
          undervolt := decide (v ≤ x.vCut)
          overvolt := decide (x.vOver < v)
          timer := some ⟨s.time, 1000⟩ } ∧
      t.settings = s.settings ∧
      t.owed = s.owed ++ waits .busUndervolt (decide (v ≤ x.vCut)) ++ waits .busOvervolt (decide (x.vOver < v)) ∧
      (∀ a : Axis,
        (v ≤ x.vCut →
          hasPresent (t.axis a).faults .busUndervolt =
            (hasPresent (s.axis a).faults .busUndervolt || ((s.axis a).life != .disabled && order.contains a))) ∧
        (x.vCut < v → hasPresent (t.axis a).faults .busUndervolt = false) ∧
        (x.vOver < v →
          hasPresent (t.axis a).faults .busOvervolt =
            (hasPresent (s.axis a).faults .busOvervolt || ((s.axis a).life != .disabled && order.contains a))) ∧
        (v ≤ x.vOver → hasPresent (t.axis a).faults .busOvervolt = false)) ∧
      (x.vCut < v → v ≤ x.vOver →
        ∀ a : Axis, t.axis a =
          { s.axis a with
            faults :=
              (s.axis a).faults.map fun e =>
                if e.kind = .busUndervolt ∨ e.kind = .busOvervolt then { e with present := false } else e })

/-- PWM_BOUNDARY takes and clears the pending request of its axis, a pending RUN being discarded while a PAUSE holds the
axis or it is FAULTED; in RUN it latches the test demand of a running test or else the handed demand, and 0 otherwise;
it reads the dead time.  No other axis and no other state changes (R103, R104, R106).  The gate outputs follow the state,
the duty and the dead time: once the dead times of earlier changes have run, OPEN has every switch off and SHORT both low
sides on; in RUN the leg of the duty's sign has its low side on but for one centred pulse of |u| × 50 ns on its high side
with a dead time before and after it, left out where it is too short for two dead times and unbroken where its gap is, and
the other leg has its low side on (R103, R105).  No leg ever has both switches on, and a switch that was on at the end of
one period keeps the other of its leg off for the dead time read at the boundary (R103).  Instants are whole ns, and which
dead times still run is the model's own record (log entry 31). -/
def Obligations.PwmBoundaryLatchesTheDuty : Prop :=
  (∀ (s : State) (a : Axis),
    let x := s.axis a
    let st : DriveState := match x.drive.pending with
      | none => x.drive.state
      | some .run =>
        if (s.stopLine.pause = true ∧ x.life.powered = true) ∨ x.life = .faulted then x.drive.state else .run
      | some .short => .short
      | some .open => .open
    ∃ t, exec (.pwmBoundary a) s = .next t ∧ (t.axis a).drive.state = st ∧ (t.axis a).drive.pending = none ∧
      (t.axis a).drive.duty =
        (if st = .run then if x.test.running then x.test.demand else x.drive.handed else 0) ∧
      (t.axis a).drive.deadTime = x.cfg.deadTime ∧ (t.axis a).drive.handed = x.drive.handed ∧
      (t.axis a).drive.brakeReleased = x.drive.brakeReleased ∧ { t.axis a with drive := x.drive } = x ∧
      (∀ b, b ≠ a → t.axis b = s.axis b) ∧ { t with axes := s.axes } = s ∧
      ∀ n : Int, 0 ≤ n → n < x.cfg.deadTime →
        ((x.drive.gates 49999).1 = true → ((t.axis a).drive.gates n).2.1 = false) ∧
        ((x.drive.gates 49999).2.1 = true → ((t.axis a).drive.gates n).1 = false) ∧
        ((x.drive.gates 49999).2.2.1 = true → ((t.axis a).drive.gates n).2.2.2 = false) ∧
        ((x.drive.gates 49999).2.2.2 = true → ((t.axis a).drive.gates n).2.2.1 = false)) ∧
  (∀ (d : Drive) (n : Int),
    ¬((d.gates n).1 = true ∧ (d.gates n).2.1 = true) ∧ ¬((d.gates n).2.2.1 = true ∧ (d.gates n).2.2.2 = true)) ∧
  ∀ (d : Drive) (n : Int),
    d.guardA.offUntil ≤ n → d.guardA.highFrom ≤ n → d.guardB.offUntil ≤ n → d.guardB.highFrom ≤ n →
      let on : Int := |d.duty| * 50
      let half : Int := on / 2
      let whole : Bool := decide (2 * d.deadTime ≤ on ∧ 50000 - on < 2 * d.deadTime)
      let pulsed : Bool := decide (2 * d.deadTime ≤ on ∧ 2 * d.deadTime ≤ 50000 - on)
      let high : Bool := whole || (pulsed && decide (25000 - half ≤ n ∧ n < 25000 + half))
      let low : Bool :=
        !whole && (!pulsed || decide (n < 25000 - half - d.deadTime ∨ 25000 + half + d.deadTime ≤ n))
      (d.state = .open → d.gates n = (false, false, false, false)) ∧
      (d.state = .short → d.gates n = (false, true, false, true)) ∧
      (d.state = .run → 0 ≤ d.deadTime →
        (0 < d.duty → d.gates n = (high, low, false, true)) ∧
        (d.duty < 0 → d.gates n = (false, true, high, low)) ∧
        (d.duty = 0 → d.gates n = (false, true, false, true)))

/-- CURRENT_SAMPLE in RUN stores the reading, held within ±32,767 mA, and offers it to a running drive test; a sample
beyond the current trip places the drive OPEN at once and raises OVERCURRENT, which at level OPEN aborts a drive test of an
IDLE axis with TEST_DONE.  Out of RUN no sample is taken (R18, R19, R107, R108, R109).  That the tripping sample is not
offered to the test it aborts is the model's choice (log entry 19). -/
def Obligations.CurrentSampleTripsBeyondTheTrip : Prop :=
  ∀ (s : State) (a : Axis) (reading : Int),
    let x := s.axis a
    let i := clamp reading (-32767) 32767
    (x.drive.state = .run → magnitude i ≤ x.cfg.trip →
      ∃ t, exec (.currentSample a reading) s = .next t ∧
        t.axis a =
          { x with
            drive := { x.drive with lastCurrent := i, centreDue := false }
            test :=
              if x.test.running then
                { x.test with
                  peak := max x.test.peak (magnitude i).toNat
                  sum := x.test.sum + (magnitude i).toNat
                  count := x.test.count + 1 }
              else x.test } ∧
        (∀ b, b ≠ a → t.axis b = s.axis b) ∧ { t with axes := s.axes, link := s.link } = s) ∧
    (x.drive.state = .run → x.cfg.trip < magnitude i → x.life ≠ .disabled →
      ∃ t, exec (.currentSample a reading) s = .next t ∧ (t.axis a).drive.lastCurrent = i ∧
        (t.axis a).drive.duty = 0 ∧
        (∃ e ∈ (t.axis a).faults, e.kind = .overcurrent) ∧
        (s.reactions.overcurrent = .open →
          (t.axis a).drive.state = .open ∧ (t.axis a).drive.pending = none ∧
            (x.life = .idle → (t.axis a).test.running = false ∧
              (x.test.running = true →
                t.Events s
                  (.testDone a x.test.peak (if x.test.count = 0 then 0 else x.test.sum / x.test.count) true))) ∧
            (x.life.powered = true → (t.axis a).life = .faulted ∧ (t.axis a).drive.brakeReleased = false))) ∧
    (x.drive.state ≠ .run →
      exec (.currentSample a reading) s =
        .next (s.modAxis a fun x => { x with drive := { x.drive with centreDue := false } }))

/-- STOP_LINE_ASSERTION with the line released records the stored mode and aborts every running drive test, with OPEN at
once and TEST_DONE on an IDLE axis; in mode PAUSE it sets the pause condition and places every powered axis in SHORT at
once with its state and brake unchanged, with one EVENT, a leg whose high side was on having both switches off for one
dead time and then its low side on; in mode LATCH it raises STOP_LINE on every configured axis.  STOP_LINE_RELEASE of a
PAUSE clears the pause condition and requests RUN on every powered axis, with one EVENT; of a LATCH it clears the
STOP_LINE flags (R19, R103, R107, R114, R115, R116, R117).  Which of the raises are taken at this event and in which order
is the command's; each of the others waits, to be taken at an event of its own (the model's form of R119, log entry 9). -/
def Obligations.StopLineStopsAndReleases : Prop :=
  ∀ s : State,
    (∀ order : List Axis, s.stopLine.asserted = false →
      ∃ t, exec (.stopLineAssertion order) s = .next t ∧ t.stopLine.asserted = true ∧
        t.stopLine.mode = some s.settings.stopMode ∧ (∀ a : Axis, (t.axis a).test.running = false) ∧
        (∀ a : Axis, (s.axis a).life = .idle → (s.axis a).test.running = true →
          (t.axis a).drive.state = .open ∧ (t.axis a).drive.pending = none ∧ (t.axis a).drive.duty = 0 ∧
            t.Events s
              (.testDone a (s.axis a).test.peak
                (if (s.axis a).test.count = 0 then 0 else (s.axis a).test.sum / (s.axis a).test.count) true)) ∧
        (s.settings.stopMode = .pause →
          t.stopLine.pause = true ∧ t.Events s (.stopLine true) ∧ t.owed = s.owed ∧
            ∀ a : Axis, (t.axis a).life = (s.axis a).life ∧ (t.axis a).faults = (s.axis a).faults ∧
              (t.axis a).drive.brakeReleased = (s.axis a).drive.brakeReleased ∧
              ((s.axis a).life.powered = true →
                (t.axis a).drive.state = .short ∧ (t.axis a).drive.duty = 0 ∧ (t.axis a).drive.pending = none) ∧
              ((s.axis a).life.powered = true → (s.axis a).test.running = false →
                let now : Int := if (s.axis a).drive.boundaryDue then 50000 else (s.pwmPhase : Int) * 1000
                ∀ n : Int, now ≤ n →
                  (((s.axis a).drive.gates (now - 1)).1 = true →
                    ((t.axis a).drive.gates n).1 = false ∧
                      ((t.axis a).drive.gates n).2.1 = decide (now + (s.axis a).drive.deadTime ≤ n)) ∧
                  (((s.axis a).drive.gates (now - 1)).2.2.1 = true →
                    ((t.axis a).drive.gates n).2.2.1 = false ∧
                      ((t.axis a).drive.gates n).2.2.2 = decide (now + (s.axis a).drive.deadTime ≤ n)))) ∧
        (s.settings.stopMode = .latch →
          t.stopLine.pause = s.stopLine.pause ∧
            t.owed = s.owed ++
              ([0, 1, 2, 3].filter fun a : Axis => (s.axis a).life != .disabled && !order.contains a).map
                (fun a => (a, FaultKind.stopLine)) ∧
            ∀ a : Axis,
              if (s.axis a).life ≠ .disabled ∧ a ∈ order then hasPresent (t.axis a).faults .stopLine = true
              else (t.axis a).faults = (s.axis a).faults ∧ (t.axis a).life = (s.axis a).life)) ∧
    (s.stopLine.asserted = true → s.stopLine.mode = some .pause →
      ∃ t, exec .stopLineRelease s = .next t ∧
        t.stopLine = { asserted := false, mode := none, pause := false } ∧ t.Events s (.stopLine false) ∧
        (∀ a : Axis, t.axis a =
          if (s.axis a).life.powered then { s.axis a with drive := { (s.axis a).drive with pending := some .run } }
          else s.axis a) ∧
        { t with stopLine := s.stopLine, axes := s.axes, link := s.link } = s) ∧
    (s.stopLine.asserted = true → s.stopLine.mode = some .latch →
      ∃ t, exec .stopLineRelease s = .next t ∧ t.stopLine = { s.stopLine with asserted := false, mode := none } ∧
        (∀ a : Axis, t.axis a =
          { s.axis a with
            faults :=
              (s.axis a).faults.map fun e => if e.kind = .stopLine then { e with present := false } else e }) ∧
        { t with stopLine := s.stopLine, axes := s.axes, link := s.link } = s)
end

