-- ==== Sys2Proof/Tests/Slice0.lean ====
section
/-! SUPPORT. The model's own tests: what well-formedness refuses, worked examples of the manual, and for every
statement with hypotheses a concrete state and operands that meet them. -/

set_option maxRecDepth 100000

namespace Sys2Proof.Tests

open Sys2Proof Sys2Proof.Machine

/-! ### Small states -/

/-- A JOINT record within every range, on encoder input 0. -/
def jointRecord : AxisRecord :=
  { AxisRecord.zero with
    kind := .joint, period := 500, encoder := 0, gyroSign := 1, vehSign := 1, num := 9, den := 25, limMin := -90000
    limMax := 90000, rateLimit := 60000, accelLimit := 200000, window := 50, errClamp := 5000, trackLimit := 5000
    trackTime := 100, torque := 900, slew := 50, satTime := 500, trip := 12000, deadTime := 500, releaseTime := 100
    engageTime := 80 }

/-- An INERTIAL record on gyro channel Z with no encoder. -/
def inertialRecord : AxisRecord := { jointRecord with kind := .inertial, gyroChannel := 2, encoder := 4 }

/-- The device after reset with axis 0 in a state under a record. -/
def axis0 (l : Life) (r : AxisRecord) : State := State.reset.modAxis 0 fun x => { x with life := l, cfg := r }

/-- The same with the bus sampled at 48.0 V. -/
def powered (l : Life) (r : AxisRecord) : State :=
  { axis0 l r with bus := { Bus.reset with voltage := 480, derate := 1000, sampled := true } }

/-- The device after reset with one command waiting. -/
def waiting (c : Instr) : State := { State.reset with pending := [c] }

/-- A state with a link framer. -/
def framing (s : State) (st : FramerState) (b : List Byte) : State :=
  { s with link := { s.link with framer := { state := st, bytes := b, lastTime := 0 } } }

/-- The next state of a command, or the state before it. -/
def after (c : Instr) (s : State) : State :=
  match exec c s with
  | .next t => t
  | _ => s

/-- A HOLD segment of no duration. -/
def holdSegment : Segment :=
  { tag := 7, kind := .hold, value := 0, cap := 0, accel := 200000, duration := 0, start := .immediate, group := 0
    members := 0, notify := false }

/-- The carried form of it, with a start and a group. -/
def carriedHold (st : Start) (group : Nat) (members : Byte) : CarriedSegment :=
  { tag := 7, kind := .hold, value := none, cap := none, accel := 0, duration := 0, start := st, group := group
    members := members, notify := false }

/-- A stream context that is live, with its timer running. -/
def liveStream : StreamContext :=
  { rate := 100, arrival := some 0, aged := false, timer := some ⟨0, 50000⟩, lapse := .live }

/-! ### Well-formedness -/

theorem test_wellFormed_refuses_long_payload :
    (Instr.identify 1 (List.replicate 249 0)).wellFormed = false := by decide

theorem test_wellFormed_accepts_longest_payload :
    (Instr.identify 1 (List.replicate 248 0)).wellFormed = true := by decide

theorem test_wellFormed_refuses_repeated_axis : (Instr.linkSilence [1, 1]).wellFormed = false := by decide

theorem test_wellFormed_accepts_order : (Instr.headStale [3, 0, 2, 1]).wellFormed = true := by decide

theorem test_wellFormed_refuses_known_type : (Instr.unknownType 0x23 1 []).wellFormed = false := by decide

theorem test_wellFormed_refuses_stream_type : (Instr.unknownType 0x40 1 []).wellFormed = false := by decide

/-- No word of bits spells a command. -/
theorem test_no_word_spells_a_command : decodeTableWord 8 0x01 = none := by decide

theorem test_fetch_word_leaves_the_queue : State.reset.withFetchWord 8 1 = State.reset := by rfl

/-! ### Worked examples of the manual -/

/-- The check value of the CRC of R145: the nine characters "123456789" give 0x29B1. -/
theorem test_crc_check_value : crc16 [0x31, 0x32, 0x33, 0x34, 0x35, 0x36, 0x37, 0x38, 0x39] = 0x29B1#16 := by decide

/-- Chapter 2, joint angle and rate: counts 10,055 and 10,110 give 3,619 and 3,639, and 19,500 mdeg/s. -/
theorem test_joint_angle_and_rate :
    jointAngle jointRecord { Encoder.reset false false with count := 10055 } = 3619 ∧
      historyRate [3600, 3600, 3600, 3619, 3639] 500 = 19500 := by decide

/-- Chapter 2, inertial integration: the first and the fourth update of axis TILT. -/
theorem test_inertial_integration :
    let m := AxisState.reset.meas.inertialStep (-4788) 1000
    m.theta = -5 ∧ m.inertialRem = 212000 ∧
      ({ m with inertial := -10, inertialRem := 424000 }.inertialStep 1212 1000).theta = -9 := by decide

/-- Section 4.8: at the fourth update of the short GOTO 9 mdeg are needed to stop and 8 are left. -/
theorem test_goto_brakes :
    gotoTarget { holdSegment with kind := .goto, value := 20, cap := 3000, accel := 500000 } 12 3000 = 0 ∧
      gotoTarget { holdSegment with kind := .goto, value := 20, cap := 3000, accel := 500000 } 6 2000 = 3000 := by
  decide

/-- Section 4.9: one braking update of axis SWING. -/
theorem test_braking_update :
    rateStepSize 120000 500 = 60 ∧ stepRate 30000 0 60 = 29940 ∧
      integrate 0 0 29940 500 = { theta := 14, rem := 970000, omega := 29940 } := by decide

/-- Section 4.10: the twelfth update of the rate run ends in a limit stop at the maximum. -/
theorem test_limit_stop :
    let cfg := { jointRecord with limMax := 10000, accelLimit := 1000000, period := 1000 }
    limitStopSide cfg true 9989 10006 = some .max ∧ approachTarget cfg 9800 20000 20000 = 0 ∧
      approachTarget cfg 9780 20000 20000 = 20000 := by decide

/-- Section 5.8: one update of the moving head axis PAN. -/
theorem test_loop_update :
    integratorDecision 51200 59 253 40 600 = (51453, 299) ∧ shapeOutput 299 270 600 50 = 299 := by decide

/-- Section 5.9: a refused increment at the limit. -/
theorem test_refused_increment :
    integratorDecision 64000 700 500 40 600 = (64000, 990) ∧ shapeOutput 990 560 600 50 = 600 := by decide

/-- Section 5.11: a bus sag below the previous output. -/
theorem test_bus_sag : shapeOutput 590 580 300 50 = 300 := by decide

/-- Section 6.9: D_bus at 42.1, 38.8, 36.0 and 36.6 V. -/
theorem test_bus_derate :
    [421, 388, 360, 366].map (busDerate Settings.default) = [762, 350, 0, 75] := by decide

/-- Section 7.9: after OVERCURRENT, LINK_SILENCE leaves a FAULTED axis FAULTED and joins its set. -/
theorem test_two_raises :
    let s := after (.faultRaise 0 .linkSilence) (after (.faultRaise 0 .overcurrent) (axis0 .tracking inertialRecord))
    (s.axis 0).life = .faulted ∧ (s.axis 0).drive.state = .open ∧
      (s.axis 0).faults.map (·.kind) = [.overcurrent, .linkSilence] := by decide

/-- Section 8.6: the crossings of updates 2, 3, 6 and 7. -/
theorem test_mark_crossings :
    crossingOf 4998 5000 5000 = some .up ∧ crossingOf 5000 5001 5000 = none ∧ crossingOf 5000 4995 4990 = none ∧
      crossingOf 4995 4989 4990 = some .down := by decide

/-- R103: the pulse of a duty too short for two dead times is left out, and so is the gap of one too long. -/
theorem test_short_pulse :
    pulsedPattern 19 500 = .low ∧ pulsedPattern 20 500 = .pulse 1000 ∧ pulsedPattern 981 500 = .high := by decide

/-- R103, R107: a leg that is full on is placed SHORT by a PAUSE 1 µs before the boundary, with a dead time of 2000 ns: its
low side comes on 2000 ns after, 1000 ns into the next period. -/
theorem test_dead_time_runs_over_the_boundary :
    let x := { (powered .tracking { jointRecord with deadTime := 2000 }).axis 0 with
      drive := { AxisState.reset.drive with state := .run, duty := 1000, deadTime := 2000 } }
    let y := { x with drive := x.drive.placeAtOnce .short 49000 }.boundary true
    y.drive.gates 0 = (false, false, false, true) ∧ y.drive.gates 999 = (false, false, false, true) ∧
      y.drive.gates 1000 = (false, true, false, true) := by decide

/-- R107: a change at once in the dead time after a pulse waits for the rest of it. -/
theorem test_trailing_dead_time_is_kept :
    let d : Drive := { AxisState.reset.drive with state := .run, duty := 600, deadTime := 2000 }
    (d.gates 41000) = (false, false, false, true) ∧ (d.placeAtOnce .short 41000).gates 41999 = (false, false, false, true) ∧
      (d.placeAtOnce .short 41000).gates 42000 = (false, true, false, true) := by decide

/-- R119: a raise that the order leaves out waits, and the device's own clock takes it. -/
theorem test_waiting_raise :
    let s := after (.linkSilence []) (powered .idle jointRecord)
    s.owed = [(0, .linkSilence)] ∧ (s.axis 0).faults = [] ∧
      ((after (.faultRaise 0 .linkSilence) s).axis 0).faults.map (·.kind) = [.linkSilence] ∧
      (after (.faultRaise 0 .linkSilence) s).owed = [] := by decide

/-- R85: gains staged AT_SEGMENT and copied at an activation are not yet those of the same update's computation. -/
theorem test_gains_of_stage_one :
    let s := (powered .tracking jointRecord).modAxis 0 fun x =>
      { x with
        hold := ⟨0, 65535, 0⟩, waiting := [holdSegment], staged := some ⟨.both, ⟨0, 0, 0⟩, .atSegment⟩
        meas := { x.meas with history := [-100, -100, -100, -100, -100] } }
    let t := after (.axisUpdate 0) s
    (t.axis 0).hold = ⟨0, 0, 0⟩ ∧ (t.axis 0).loop.uOut = -50 := by decide

/-! ### Hypotheses that are met: the step, reset and the invariants -/

theorem witness_StepRunsFrontCommand : (waiting .syncLost).pending = .syncLost :: [] := by decide

/-- Nothing due at reset; a request that can be processed, and a raise that waits, are due. -/
theorem witness_EmptyQueuePassesOneMicrosecond :
    State.reset.pending = [] ∧ State.reset.dueEvents = [] ∧
      { State.reset with owed := [(0, .tracking)] }.dueEvents = [.faultRaise 0 .tracking] ∧
      { State.reset with link := { Link.reset with inbound := [⟨0x01, 1, []⟩] } }.Admits 0x01 1 [] ∧
      State.reset.TimeUp (some ⟨0, 0⟩) :=
  ⟨rfl, rfl, rfl, by unfold State.Admits; decide, ⟨_, rfl, by decide⟩⟩

/-- A step that the invariants' statements speak of: a stop line assertion waits in an armed device. -/
theorem witness_step : ∃ t, step { powered .idle jointRecord with pending := [.stopLineAssertion []] } = .next t :=
  ⟨_, rfl⟩

theorem witness_StepKeepsLinkBounded : (powered .idle jointRecord).LinkBounded := by
  unfold State.LinkBounded; decide

theorem witness_StepKeepsBrakesLawful : (powered .idle jointRecord).BrakesLawful := by
  unfold State.BrakesLawful; decide

theorem witness_StepKeepsDrivesLawful : (powered .idle jointRecord).DrivesLawful := by
  unfold State.DrivesLawful StopLine.lawful AxisState.DriveLawful; decide

theorem witness_StepKeepsQueuesBounded : (powered .idle jointRecord).QueuesBounded := by
  unfold State.QueuesBounded; decide

theorem witness_StepKeepsFaultsLawful : (powered .idle jointRecord).FaultsLawful := by
  unfold State.FaultsLawful FaultEntry.lawful
  exact ⟨fun k => by cases k <;> decide, by decide⟩

theorem witness_StepKeepsSettingsLawful : (powered .idle jointRecord).SettingsLawful := by
  unfold State.SettingsLawful Settings.lawful; decide

theorem witness_StepKeepsGroupsLawful : (powered .idle jointRecord).GroupsLawful := by
  unfold State.GroupsLawful; decide

theorem witness_StepKeepsDisabledBlank : (powered .idle jointRecord).DisabledBlank := by
  unfold State.DisabledBlank; decide

theorem witness_AxisEventsLeaveOtherAxes :
    (∃ t, exec (.axisUpdate 0) (powered .tracking jointRecord) = .next t) ∧
      (∃ t, exec (.faultRaise 0 .tracking) (powered .tracking jointRecord) = .next t) ∧ (1 : Axis) ≠ 0 :=
  ⟨⟨_, rfl⟩, ⟨_, rfl⟩, by decide⟩

/-! ### What is sent is what is read -/

/-- The longest payload, and an inbound queue with one slot left. -/
theorem witness_LinkFrameIsReadAsSent :
    let s := { State.reset with link := { Link.reset with inbound := List.replicate 7 ⟨1, 0, []⟩ } }
    (0x3F : Byte) ≠ 0x40 ∧ (List.replicate 248 (0 : Byte)).length ≤ 248 ∧ s.link.framer.state = .hunt ∧
      s.link.inbound.length < 8 := by decide

/-- Rates and an acceleration at the bounds of their ranges. -/
theorem witness_SensorFramesAreReadAsSent :
    (magnitude (-1500000) ≤ 1500000 ∧ magnitude 1500000 ≤ 1500000 ∧ magnitude 0 ≤ 1500000) ∧ fitsS16 (-32768) ∧
      State.reset.headPort.bytes = [] ∧ State.reset.head.seq ≠ some 255 ∧ State.reset.vehiclePort.bytes = [] ∧
      State.reset.vehicle.seq ≠ some 0 := by
  unfold fitsS16; decide

/-- Four bytes of ones in accel are -1 (R157), which R46 clamps to 1,000; in duration they are -1 too. -/
theorem test_accel_and_duration_are_signed :
    let p := ((List.replicate 13 (0 : Byte)) ++ List.replicate 8 0xFF ++ List.replicate 5 0)
    (readSegment p).map (fun c => (c.accel, c.duration)) = some (-1, -1) ∧
      storedAccel ((powered .idle jointRecord).axis 0) (-1) = 1000 := by decide

/-- A segment and a record with fields at the bounds of their bytes. -/
theorem witness_RecordPayloadsAreReadAsCarried :
    { carriedHold (.sync 15) 15 0x0F with
        value := some (-2147483648), cap := some 2147483647, accel := -2147483648, duration := 2147483647 }.fits ∧
      { jointRecord with period := 65535, limMin := -2147483648, bias := -32768, tap := 255 }.fits := by
  refine ⟨⟨?_, ?_, ?_, ?_, ?_, by decide, by decide⟩, ?_⟩
  · intro v h; cases h; unfold fitsS32; decide
  · intro v h; cases h; unfold fitsS32; decide
  · unfold fitsS32; decide
  · unfold fitsS32; decide
  · intro d h; cases h; decide
  · unfold AxisRecord.fits fitsU16 fitsS32 fitsS16; decide

/-! ### Reset and the link -/

/-- A framer one character before the end of an IDENTIFY frame, with an inbound slot empty and with none. -/
theorem witness_ValidRequestFrameIsQueuedOrDropped :
    let f := linkFrame 0x01 5 []
    let s := framing State.reset .check (f.drop 1).dropLast
    (0x01 : Byte) ≠ 0x40 ∧ ([] : List Byte).length ≤ 248 ∧ s.link.framer.state = .check ∧
      s.link.framer.bytes ++ [f.getLastD 0] = f.drop 1 ∧ s.link.inbound.length < 8 ∧
      ¬(List.replicate 8 (⟨1, 0, []⟩ : Request)).length < 8 := by decide

/-- A message of one entry and one of four, for an axis number that names no axis, a DISABLED axis, and a configured one
whose STREAM segment has lapsed; and messages of a count of 0, of 5, and of a length that does not fit. -/
theorem witness_StreamMessageStoresRates :
    let e1 : List (Byte × Int) := [(4, 2147483647)]
    let e4 : List (Byte × Int) := [(0, 1), (1, -2147483648), (0, 5), (3, 0)]
    let stream (es : List (Byte × Int)) := linkFrame 0x40 0 (putNat8 es.length ++ es.flatMap fun e => [e.1] ++ put32 e.2)
    let s (f : List Byte) := framing (powered .tracking jointRecord) .check (f.drop 1).dropLast
    let x := { (powered .tracking jointRecord).axis 0 with
      stream := { liveStream with lapse := .lapsed }
      active := some
        { seg := { holdSegment with kind := .stream }, elapsed := 0, followed := false, syncMissed := false } }
    (∀ e ∈ e1, fitsS32 e.2) ∧ (∀ e ∈ e4, fitsS32 e.2) ∧ 1 ≤ e1.length ∧ e4.length ≤ 4 ∧
      (s (stream e1)).link.framer.bytes ++ [(stream e1).getLastD 0] = (stream e1).drop 1 ∧
      (s (stream e4)).link.framer.bytes ++ [(stream e4).getLastD 0] = (stream e4).drop 1 ∧
      (s (stream e4)).link.framer.state = .check ∧ lastRate e4 0 = some 5 ∧ lastRate e4 2 = none ∧
      lastRate e1 0 = none ∧ ((s (stream e4)).axis 1).life = .disabled ∧ x.streamTag = some 7 ∧
      x.stream.lapse = .lapsed ∧ ¬(1 ≤ (byteAt [0] 0).toNat) ∧ ¬((byteAt [5] 0).toNat ≤ 4) ∧
      ([1, 0] : List Byte).length ≠ 1 + 5 * (byteAt [1, 0] 0).toNat ∧
      (s (linkFrame 0x40 0 [5])).link.framer.bytes ++ [(linkFrame 0x40 0 [5]).getLastD 0] =
        (linkFrame 0x40 0 [5]).drop 1 := by
  unfold fitsS32; decide

theorem witness_AbandonedFramesLeaveNothing : (framing State.reset .header []).link.framer.state ≠ .hunt := by decide

/-- One state for each clause: hunting, the header's first, middle and last byte, payload, and the two CRC bytes. -/
theorem witness_LinkCharacterMovesTheFramer :
    let f (st : FramerState) (b : List Byte) := (framing State.reset st b).link.framer
    (f .hunt []).state = .hunt ∧ (0xC2 : Byte) ≠ 0xC3 ∧ (f .header []).bytes = [] ∧ 248 < (249 : Byte).toNat ∧
      (248 : Byte).toNat ≤ 248 ∧ 1 ≤ (f .header [1]).bytes.length ∧ (f .header [1, 2]).bytes.length < 3 ∧
      (f .header [0, 1, 5]).bytes.length = 3 ∧ (f .payload [1, 3, 5, 0]).state = .payload ∧
      (f .check [0, 1, 5, 0]).bytes.length + 1 < 6 + ((f .check [0, 1, 5, 0]).bytes.headD 0).toNat ∧
      (f .check [0, 1, 5, 0, 9]).bytes.length + 1 = 6 + ((f .check [0, 1, 5, 0, 9]).bytes.headD 0).toNat ∧
      bytesOf16 (crc16 ((f .check [0, 1, 5, 0, 9]).bytes.take 4)) ≠ [9, 9] := by decide

theorem witness_RefusedRequestsAreAnsweredAlone :
    State.reset.Admits 0x7F 1 [] ∧ typeUnknown 0x7F = true ∧ requestLength 0x03 = some 1 ∧
      ([] : List Byte).length ≠ 1 := by
  unfold State.Admits; decide

/-! ### Requests -/

/-- A request is admitted with one reply slot empty, at the head of the inbound queue or with that queue empty. -/
theorem witness_admitted :
    let l := { Link.reset with replies := List.replicate 7 ⟨1, 0, .ok, .alone⟩ }
    { State.reset with link := l }.Admits 0x01 1 [] ∧
      { State.reset with link := { l with inbound := [⟨0x01, 1, []⟩] } }.Admits 0x01 1 [] := by
  unfold State.Admits; decide

theorem witness_IdentifyAnswersFixedValues : State.reset.Admits 0x01 1 [] := by
  unfold State.Admits; decide

theorem witness_ReadStatusReportsAndClears : State.reset.Admits 0x02 1 [] := by
  unfold State.Admits; decide

/-- An axis number above 3 and the highest one, and an angle of each class of states. -/
theorem witness_ReadAxisReportsTheAxis :
    State.reset.Admits 0x03 1 [4] ∧ 3 < (4 : Byte).toNat ∧ State.reset.Admits 0x03 1 [3] ∧
      (3 : Byte).toNat = (3 : Axis).val ∧ State.reset.ReportsAngle 3 0 ∧
      (powered .idle jointRecord).ReportsAngle 0 0 ∧ (powered .faulted inertialRecord).ReportsAngle 0 0 ∧
      (powered .held jointRecord).ReportsAngle 0 0 :=
  ⟨by unfold State.Admits; decide, by decide, by unfold State.Admits; decide, by decide, rfl,
    ⟨fun _ => fun i h => by revert h; revert i; decide, fun h => absurd rfl h⟩,
    ⟨fun h => absurd h (by decide), fun _ => rfl⟩, rfl⟩

/-- The payload of SET_DEVICE at the defaults, with given stop mode and edge codes and thresholds. -/
def devicePayload (m e : Byte) (derate cut over' : Int) : List Byte :=
  put16 250 ++ put16 50 ++ [m, e] ++ put16 3000 ++ [40] ++ put16 500 ++ put16 derate ++ put16 cut ++ put16 over'

/-- Every clause: an axis not at rest; codes out of their lists; thresholds out of order by one; stored with the
selection other than OFF, and OFF with sync present. -/
theorem witness_SetDeviceStoresAllTen :
    let p := devicePayload 1 3 440 360 560
    let q := devicePayload 0 0 361 360 362
    p.length = 17 ∧ q.length = 17 ∧ State.reset.Admits 0x10 1 p ∧
      ¬(∀ a : Axis, ((powered .held jointRecord).axis a).life = .disabled ∨
        ((powered .held jointRecord).axis a).life = .idle) ∧
      (∀ a : Axis, (State.reset.axis a).life = .disabled ∨ (State.reset.axis a).life = .idle) ∧
      stopModeOfByte 2 = none ∧ edgeOfByte 4 = none ∧ stopModeOfByte (byteAt p 4) = some .latch ∧
      edgeOfByte (byteAt p 5) = some .both ∧ edgeOfByte (byteAt q 5) = some .off ∧
      ¬((clamp 360 100 600 : Int) < clamp 360 100 600 ∧ (clamp 360 100 600 : Int) < clamp 560 100 650) ∧
      readU16 q 13 < readU16 q 11 ∧ readU16 q 11 < readU16 q 15 ∧
      { State.reset with sync := { Sync.reset false with present := true } }.sync.present = true := by
  unfold State.Admits; decide

/-- A JOINT record on a DISABLED and on an IDLE axis, and kind NONE; and what each refusal needs: an axis number above 3,
an axis that runs, a test that runs, a kind, a code, a mapped input and limits that do not pass. -/
theorem witness_ConfigureAxisAppliesTheRecord :
    let p : List Byte := 0 :: jointRecord.bytes
    let q : List Byte := 0 :: AxisRecord.zero.bytes
    let r := readRecord p .joint
    let s := powered .idle jointRecord
    p.length = 67 ∧ q.length = 67 ∧ State.reset.Admits 0x11 1 p ∧ s.Admits 0x11 1 q ∧
      (byteAt p 0).toNat = (0 : Axis).val ∧ kindOfByte (byteAt p 1) = some .joint ∧
      kindOfByte (byteAt q 1) = some .none ∧ (State.reset.axis 0).life = .disabled ∧ (s.axis 0).life = .idle ∧
      (s.axis 0).test.running = false ∧ s.groups = [] ∧ (r.period = 500 ∧ r.encoder.toNat ≤ 3 ∧ r.vehChannel.toNat ≤ 3 ∧ r.vehSign = 0x01) ∧
      (∀ b : Axis, b ≠ 0 → (s.axis b).life = .disabled) ∧
      clamp r.limMin (-2000000) 2000000 < clamp r.limMax (-2000000) 2000000 ∧ 3 < (byteAt [4] 0).toNat ∧
      ¬(((powered .held jointRecord).axis 0).life = .disabled ∨ ((powered .held jointRecord).axis 0).life = .idle) ∧
      ((s.modAxis 0 fun x => { x with test := { x.test with running := true } }).axis 0).test.running = true ∧
      2 < (byteAt [0, 3] 1).toNat ∧ ¬(jointRecord.period = 250) ∧ { jointRecord with encoder := 4 }.encoder.toNat = 4 ∧
      ((1 : Axis) ≠ 0 ∧ (s.axis 0).life ≠ .disabled ∧ (s.axis 0).cfg.encoder = r.encoder) := by
  unfold State.Admits; decide

/-- Refusals at the first code out of each list, and Ki at its bound and above it, in each class of states. -/
theorem witness_SetGainsWritesOrStages :
    let p (a t k m : Int) := put8 a ++ put8 t ++ put16 1 ++ put16 2 ++ put16 k ++ put8 m
    (p 0 0 4095 0).length = 9 ∧ State.reset.Admits 0x12 1 (p 4 0 4096 0) ∧ 3 < (byteAt (p 4 0 0 0) 0).toNat ∧
      2 < (byteAt (p 0 3 0 0) 1).toNat ∧ 1 < (byteAt (p 0 0 0 2) 8).toNat ∧
      (byteAt (p 3 2 0 1) 0).toNat = (3 : Axis).val ∧ targetOfByte (byteAt (p 3 2 0 1) 1) = some .both ∧
      applyOfByte (byteAt (p 3 2 0 1) 8) = some .atSegment ∧ readU16 (p 0 0 4095 0) 6 = 4095 ∧
      readU16 (p 0 0 4096 0) 6 = 4096 ∧ (State.reset.axis 0).life = .disabled ∧
      ((axis0 .idle jointRecord).axis 0).life = .idle ∧ ((axis0 .faulted jointRecord).axis 0).life = .faulted ∧
      ((axis0 .held jointRecord).axis 0).life.powered = true := by
  unfold State.Admits; decide

theorem witness_SetReactionStoresTheLevel :
    State.reset.Admits 0x13 1 [10, 0] ∧ 9 < (10 : Byte).toNat ∧ State.reset.Admits 0x13 1 [0, 5] ∧
      4 < (5 : Byte).toNat ∧ State.reset.Admits 0x13 1 [9, 4] ∧ (9 : Byte).toNat = kindCode .encoderFault ∧
      (4 : Byte).toNat = Level.open.code := by
  unfold State.Admits; decide

theorem witness_SetMarkAndTelemetryStore :
    let p (a i d m e : Int) := put8 a ++ put8 i ++ put32 5000 ++ put8 d ++ put8 m ++ put8 e
    (p 3 3 2 1 1).length = 9 ∧ State.reset.Admits 0x14 1 (p 3 3 2 1 1) ∧ 3 < (byteAt (p 4 0 0 0 0) 0).toNat ∧
      3 < (byteAt (p 0 4 0 0 0) 1).toNat ∧ 2 < (byteAt (p 0 0 3 0 0) 6).toNat ∧
      1 < (byteAt (p 0 0 0 2 0) 7).toNat ∧ 1 < (byteAt (p 0 0 0 0 2) 8).toNat ∧
      (byteAt (p 3 3 2 1 1) 0).toNat = (3 : Axis).val ∧ (byteAt (p 3 3 2 1 1) 1).toNat = (3 : Fin 4).val ∧
      directionOfByte (byteAt (p 3 3 2 1 1) 6) = some .either ∧ markModeOfByte (byteAt (p 3 3 2 1 1) 7) = some .repeat ∧
      boolOfByte (byteAt (p 3 3 2 1 1) 8) = some true ∧ (State.reset.axis 3).life = .disabled ∧
      ((axis0 .faulted jointRecord).axis 0).life ≠ .disabled ∧ State.reset.Admits 0x15 1 [8, 16] ∧
      7 < (8 : Byte).toNat ∧ 15 < (16 : Byte).toNat ∧ State.reset.Admits 0x15 1 [7, 15] ∧ (7 : Byte).toNat ≤ 7 ∧
      (15 : Byte).toNat ≤ 15 := by
  unfold State.Admits; decide

/-- Both masks, and an axis that passes every test beside one that does not. -/
theorem witness_ArmArmsWhatPasses :
    let s := powered .idle jointRecord
    s.Admits 0x20 1 [16] ∧ 15 < (16 : Byte).toNat ∧ s.Admits 0x20 1 [15] ∧ (15 : Byte).toNat ≤ 15 ∧
      ((15 : Byte).getLsbD 0 = true ∧ (s.axis 0).life = .idle ∧ (s.axis 0).test.running = false ∧
        (effectiveLevel (s.axis 0).faults).code < 2 ∧ s.stopLine.asserted = false ∧ s.bus.sampled = true ∧
        s.settings.vCut < s.bus.voltage) ∧
      (s.axis 1).life ≠ .idle := by
  unfold State.Admits; decide

theorem witness_StopAndDisarmTakeAxesDown :
    (15 : Byte).toNat ≤ 15 ∧ 15 < (16 : Byte).toNat ∧ (powered .tracking jointRecord).Admits 0x22 1 [15] ∧
      (powered .tracking jointRecord).Admits 0x22 1 [16] ∧ (powered .held jointRecord).Admits 0x21 1 [15] ∧
      (powered .held jointRecord).Admits 0x21 1 [16] ∧ (15 : Byte).getLsbD 0 = true ∧
      ((powered .tracking jointRecord).axis 0).life = .tracking := by
  unfold State.Admits; decide

theorem witness_ClearFaultsRemovesEndedEntries :
    (15 : Byte).toNat ≤ 15 ∧ 15 < (16 : Byte).toNat ∧ (powered .faulted jointRecord).Admits 0x23 1 [15] ∧
      (powered .faulted jointRecord).Admits 0x23 1 [16] ∧ (15 : Byte).getLsbD 0 = true ∧
      ((powered .faulted jointRecord).axis 0).life ≠ .disabled ∧
      ((powered .faulted jointRecord).axis 1).life = .disabled := by
  unfold State.Admits; decide

/-- A LONG capture with the head stale, a SHORT one with it fresh and the bias valid, and what each refusal needs. -/
theorem witness_BiasCaptureBegins :
    let s := { powered .idle inertialRecord with
      bias := { BiasUnit.reset with validity := .valid }, head := { HeadRecord.reset with stale := false } }
    let u := powered .held inertialRecord
    captureOfByte 0 = some .long ∧ captureOfByte 1 = some .short ∧ State.reset.Admits 0x24 1 [0] ∧
      s.Admits 0x24 1 [1] ∧ State.reset.bias.activity = none ∧ s.bias.activity = none ∧
      State.reset.bias.validity ≠ .settling ∧
      (∀ a : Axis, (s.axis a).cfg.kind = .inertial → (s.axis a).life = .idle ∨ (s.axis a).life = .disabled) ∧
      s.bias.validity = .valid ∧ State.reset.head.stale = true ∧ s.head.stale = false ∧ 1 < (2 : Byte).toNat ∧
      { BiasUnit.reset with activity := some .short }.activity ≠ none ∧
      { BiasUnit.reset with validity := .settling }.validity = .settling ∧ State.reset.bias.validity ≠ .valid ∧
      ¬(∀ a : Axis, (u.axis a).cfg.kind = .inertial → (u.axis a).life = .idle ∨ (u.axis a).life = .disabled) := by
  unfold State.Admits; decide

/-- Demands and durations beyond their ranges are met too, and what each refusal needs. -/
theorem witness_DriveTestStarts :
    let p := put8 0 ++ put16 (-301) ++ put16 2001
    let s := powered .idle jointRecord
    let e : FaultEntry := { kind := .stopLine, level := .stop, count := 1, firstRaise := 0, present := false }
    p.length = 5 ∧ s.Admits 0x25 1 p ∧ (byteAt p 0).toNat = (0 : Axis).val ∧ (s.axis 0).life = .idle ∧
      (s.axis 0).test.running = false ∧ (effectiveLevel (s.axis 0).faults).code < 2 ∧ s.stopLine.asserted = false ∧
      s.bus.sampled = true ∧ s.settings.vCut < s.bus.voltage ∧ 3 < (byteAt [4] 0).toNat ∧ (s.axis 1).life ≠ .idle ∧
      ((s.modAxis 0 fun x => { x with test := { x.test with running := true } }).axis 0).test.running = true ∧
      2 ≤ (effectiveLevel [e]).code ∧ (StopLine.reset true).asserted = true ∧ State.reset.bus.sampled = false := by
  unfold State.Admits; decide

/-- A RESET, the end of its reply, and a LONG capture it cuts short. -/
theorem witness_ResetLeadsToASoftReset :
    let s := { State.reset with
      link := { Link.reset with resetPending := true, tx := some ⟨.reply ⟨0x2F, 1, .ok, .alone⟩, 0⟩ }
      bias := { BiasUnit.reset with activity := some .long, prior := some .valid } }
    State.reset.Admits 0x2F 1 [] ∧ s.link.resetPending = true ∧
      s.link.tx = some ⟨.reply ⟨0x2F, 1, .ok, .alone⟩, 0⟩ ∧ State.reset.bias.activity ≠ some .long ∧
      s.bias.activity = some .long ∧ s.bias.prior = some .valid := by
  unfold State.Admits; decide

/-- Another frame ends, with no RESET pending, and with one pending while a report is sent. -/
theorem witness_TransmitterTakesByClass :
    let s (f : Outgoing) (b : Bool) := { State.reset with
      link := { Link.reset with resetPending := b, tx := some ⟨f, 0⟩ } }
    (s (.reply ⟨0x01, 1, .ok, .identity⟩) false).link.tx.isSome = true ∧
      (s (.reply ⟨0x01, 1, .ok, .identity⟩) false).link.resetPending = false ∧
      (s (.report (.event 0 0 .vehicleLost)) true).link.tx.isSome = true ∧
      ∀ r : Reply,
        (s (.report (.event 0 0 .vehicleLost)) true).link.tx.map (·.frame) = some (.reply r) → r.type ≠ 0x2F :=
  ⟨rfl, rfl, rfl, fun _ h => by cases h⟩

/-- An eighth segment on an IDLE axis, IMMEDIATE and of a group; a ready one of start SYNC on a TRACKING axis; and what
each refusal needs. -/
theorem witness_QueueSegmentJoinsTheQueue :
    let s := (powered .idle jointRecord).modAxis 0 fun x => { x with waiting := List.replicate 7 holdSegment }
    let u := { powered .tracking jointRecord with sync := { Sync.reset false with present := true } }
    let c := carriedHold .immediate 0 0
    let g := carriedHold .immediate 15 0x03
    let y := carriedHold (.sync 15) 0 0
    let h := { carriedHold .immediate 0 0 with kind := .goto, value := some 5, cap := some 1 }
    (segmentPayload 0 c).length = 26 ∧ s.Admits 0x30 1 (segmentPayload 0 c) ∧
      (byteAt (segmentPayload 0 c) 0).toNat = (0 : Axis).val ∧ readSegment (segmentPayload 0 c) = some c ∧
      readSegment (segmentPayload 0 g) = some g ∧ readSegment (segmentPayload 0 y) = some y ∧
      (s.axis 0).life = .idle ∧ (s.axis 0).waiting.length + 0 < 8 ∧ c.group = 0 ∧ c.start = .immediate ∧
      g.group ≠ 0 ∧ (s.groups.find? fun e => e.id == g.group) = none ∧ s.groups.length < 4 ∧
      g.members.getLsbD 0 = true ∧ (u.axis 0).life = .tracking ∧ (u.axis 0).waiting = [] ∧ (u.axis 0).active = none ∧
      (u.axis 0).counting = none ∧ y.start = .sync 15 ∧ u.sync.present = true ∧
      u.Admits 0x30 1 (segmentPayload 0 y) ∧ 3 < (byteAt [4] 0).toNat ∧
      4 < (byteAt (segmentPayload 0 c |>.set 3 5) 3).toNat ∧
      ¬(((powered .held jointRecord).axis 0).life = .tracking) ∧ 8 ≤ (List.replicate 8 holdSegment).length ∧
      { c with kind := .rate }.value = none ∧ readSegment (segmentPayload 0 h) = some h ∧
      (s.axis 0).cfg.kind = .joint ∧ (s.encoders.get 0).homed = false ∧ g.members.getLsbD 2 = false := by
  unfold State.Admits; decide

/-- The second of two members arrives and completes a group of each start, and the first arrives in a new one. -/
theorem witness_QueueSegmentJoinsTheQueue_arrivals :
    let e (st : Start) : GroupEntry :=
      { id := 15, members := 0x3#4, start := st, queued := 0x2#4, arrived := 0x2#4, remaining := none, syncMissed := false }
    let s (st : Start) := { powered .tracking jointRecord with groups := [e st] }.modAxis 1 fun x =>
      { x with life := .tracking, waiting := [{ holdSegment with group := 15, start := st }] }
    let c (st : Start) := carriedHold st 15 0x03
    (∀ st, st = .immediate ∨ st = .sync 2 →
      ((s st).groups.find? fun f => f.id == (c st).group) = some (e st) ∧ (e st).queued.getLsbD 0 = false ∧
        (e st).arrived.getLsbD 0 = false ∧ (e st).arrived ||| (1#4 <<< (0 : Axis).val) = (e st).members ∧
        (e st).start = (c st).start ∧ (e st).members = (c st).members.setWidth 4 ∧
        ((s st).axis 1).waiting.length = 1 ∧ (e st).members.getLsbD 1 = true) ∧
      (0#4 ||| (1#4 <<< (0 : Axis).val)) ≠ (e .immediate).members ∧ State.reset.sync.present = false := by
  refine ⟨fun st h => ?_, by decide, by decide⟩
  rcases h with h | h <;> subst h <;> decide

/-- Both modes, the refused masks and modes, and a member flushed beside one that the mask leaves out. -/
theorem witness_FlushEmptiesQueues :
    let e : GroupEntry :=
      { id := 3, members := 0x3#4, start := .immediate, queued := 0x3#4, arrived := 0x1#4, remaining := none
        syncMissed := false }
    let g := { holdSegment with group := 3, members := 0x3#4 }
    let s := ({ powered .tracking jointRecord with groups := [e] }.modAxis 0 fun x => { x with waiting := [g] }).modAxis 1
      fun x => { x with life := .tracking, waiting := [g] }
    (15 : Byte).toNat ≤ 15 ∧ (1 : Byte).toNat ≤ 1 ∧ 15 < (16 : Byte).toNat ∧ 1 < (2 : Byte).toNat ∧
      (powered .tracking jointRecord).Admits 0x31 1 [15, 1] ∧ (15 : Byte).getLsbD 0 = true ∧
      ((powered .tracking jointRecord).axis 0).life ≠ .disabled ∧ (powered .tracking jointRecord).groups = [] ∧
      s.Admits 0x31 1 [1, 0] ∧ s.groups = [e] ∧ e.id ≠ 0 ∧ (1 : Byte).getLsbD 0 = true ∧ (s.axis 0).life ≠ .disabled ∧
      e.queued.getLsbD 0 = true ∧ g.group = e.id ∧ (s.axis 0).waiting = [g] ∧ (1 : Byte).getLsbD 1 = false ∧
      e.queued.getLsbD 1 = true ∧ ((s.axis 1).waiting.find? fun g => g.group == e.id) = some g ∧
      (s.axis 1).waiting = [g] := by
  unfold State.Admits; decide

/-! ### Measurement -/

/-- Each port holds all of a frame but its last character; a capture has one sample to go before its last, and its last;
rates at the stillness threshold and one beyond it; a shock that begins at one above the threshold. -/
theorem witness_SensorFramesReplaceTheRecord :
    let h := headFrame 5 ⟨500, -500, 0⟩
    let v := vehicleFrame 9 ⟨1500000, 0, 0⟩ 0 0 4001
    let s (n : Nat) := { State.reset with
      headPort := ⟨h.dropLast, 0⟩, vehiclePort := ⟨v.dropLast, 0⟩
      bias := { BiasUnit.reset with activity := some .short, count := n } }
    (((s 254).headPort.bytes ++ [h.getLastD 0]).length = 15 ∧ byteSum ((s 254).headPort.bytes ++ [h.getLastD 0]) = 0 ∧
      (s 254).head.seq ≠ some (byteAt ((s 254).headPort.bytes ++ [h.getLastD 0]) 1) ∧
      (s 254).bias.activity = some .short ∧ (s 254).shock.active = false ∧
      ¬((s 254).settings.stillness < magnitude 500 ∨ (s 254).settings.stillness < magnitude (-500)) ∧
      (s 254).settings.stillness < magnitude 501 ∧ { State.reset.shock with active := true }.active = true ∧
      (s 254).bias.count + 1 < 256 ∧ 256 ≤ (s 255).bias.count + 1 ∧ State.reset.bias.activity = none) ∧
      ((s 254).vehiclePort.bytes ++ [v.getLastD 0]).length = 21 ∧
      byteSum ((s 254).vehiclePort.bytes ++ [v.getLastD 0]) = 0 ∧
      (s 254).vehicle.seq ≠ some (byteAt ((s 254).vehiclePort.bytes ++ [v.getLastD 0]) 1) ∧
      (s 254).vehicle.stale = true ∧ (s 254).settings.shockThreshold < magnitude (4001 - 1000) ∧
      ¬((s 254).settings.shockThreshold < magnitude (4000 - 1000)) := by decide

/-- Hunting, the first and the last character of a frame, a wrong sum, and a repeat. -/
theorem witness_SensorCharactersAssembleFrames :
    let h := headFrame 5 ⟨0, 0, 0⟩
    let s := { State.reset with headPort := ⟨h.dropLast, 0⟩, head := { HeadRecord.reset with seq := some 5 } }
    State.reset.headPort.bytes = [] ∧ (0x5A : Byte) ≠ 0xA5 ∧ [(0xA5 : Byte)] ≠ [] ∧ [(0xA5 : Byte)].length + 1 < 15 ∧
      (s.port .head).bytes ≠ [] ∧ (s.port .head).bytes.length + 1 = 15 ∧
      byteSum ((s.port .head).bytes ++ [h.getLastD 0 + 1]) ≠ 0 ∧
      s.head.seq = some (byteAt ((s.port .head).bytes ++ [h.getLastD 0]) 1) := by decide

/-- A fresh head over a tracking INERTIAL axis, in the order and left out of it, and three other axes, with a LONG capture
running. -/
theorem witness_HeadStaleRaisesSensorStall :
    let s := { powered .tracking inertialRecord with
      head := { HeadRecord.reset with stale := false }, bias := { BiasUnit.reset with activity := some .long } }
    s.head.stale = false ∧ ((s.axis 0).cfg.kind == .inertial && (s.axis 0).life.powered) = true ∧
      (0 : Axis) ∈ [(2 : Axis), 0] ∧ (0 : Axis) ∉ [(2 : Axis)] ∧
      ((s.axis 1).cfg.kind == .inertial && (s.axis 1).life.powered) = false ∧ s.bias.activity = some .long := by decide

theorem witness_MeasurementTimersExpire :
    let s := { State.reset with
      vehicle := { VehicleRecord.reset with stale := false }
      bias := { BiasUnit.reset with settle := some ⟨0, 100000⟩ } }
    s.vehicle.stale = false ∧ s.bias.settle.isSome = true := by decide

theorem witness_EncoderTransitionCounts :
    let e := State.reset.encoders.get 3
    true ≠ e.phaseA ∧ false = e.phaseB ∧ false = e.phaseA ∧ true ≠ e.phaseB := by decide

/-- A mapped input whose hold does not run, one whose hold runs, and one that is not mapped. -/
theorem witness_IllegalTransitionRunsTheHold :
    let s := powered .idle jointRecord
    let u := s.modEncoder 0 fun e => { e with hold := some ⟨0, 10000⟩ }
    (s.encoders.get 0).hold = none ∧ s.mappedAxis 0 = some 0 ∧ (u.encoders.get 0).hold ≠ none ∧
      s.mappedAxis 1 = none := by decide

theorem witness_IndexEdgeReloadsWhenArmed :
    let s := (powered .tracking jointRecord).modEncoder 0 fun e => { e with armed := true }
    (s.encoders.get 0).armed = true ∧ s.mappedAxis 0 = some 0 ∧ (s.encoders.get 1).armed = false := by decide

/-! ### The axis -/

theorem witness_AxisUpdateMeasuresAndHandsOff :
    ((powered .tracking jointRecord).axis 0).life.powered = true ∧ jointRecord.kind = .joint ∧
      jointRecord.encoder.toNat = (0 : Input).val ∧ ((powered .held inertialRecord).axis 0).life.powered = true ∧
      inertialRecord.kind = .inertial ∧
      ((after (.axisUpdate 0) (powered .tracking jointRecord)).axis 0).life.powered = true := by decide

/-- An update that raises nothing: a JOINT axis that is homed at its limits' margin, and one with fresh timers. -/
theorem witness_quiet_update :
    (powered .tracking jointRecord).StallQuiet 0 ∧ (powered .tracking jointRecord).WatchesQuiet 0 ∧
      { powered .tracking inertialRecord with head := { HeadRecord.reset with stale := false } }.StallQuiet 0 ∧
      ((powered .tracking { jointRecord with num := 1, den := 1, limMin := 0, limMax := 5 }).modEncoder 0 fun e =>
        { e with homed := true, count := 5 }).WatchesQuiet 0 := by
  refine ⟨fun h => absurd h (by decide), ?_, fun _ h => absurd h (by decide), ?_⟩ <;> (unfold State.WatchesQuiet; decide)

/-- In TRACKING: a HOLD one update short of its duration and one that reaches it, a GOTO that reaches its time limit, a
reloaded HOME, and an IMMEDIATE segment behind an unbounded one, with a staged gain record of each mode. -/
theorem witness_AxisUpdateMeasuresAndHandsOff_sequencer :
    let c (k : SegKind) (d e : Int) : ActiveSegment :=
      { seg := { holdSegment with kind := k, duration := d }, elapsed := e, followed := true, syncMissed := false }
    let ends (c : ActiveSegment) : Bool := c.seg.duration != 0 && decide (c.seg.duration * 1000 ≤ c.elapsed + 500)
    let r (m : ApplyMode) : StagedGain := ⟨.both, ⟨1, 2, 3⟩, m⟩
    jointRecord.period = 500 ∧ ends (c .hold 1 499) = false ∧ ends (c .hold 1 500) = true ∧
      ends (c .goto 1 500) = true ∧ ends (c .home 0 500) = false ∧ (c .home 0 0).seg.kind = .home ∧
      ends (c .rate 0 9000) = false ∧ (c .rate 0 0).seg.duration = 0 ∧ holdSegment.group = 0 ∧
      holdSegment.start = .immediate ∧ holdSegment.kind = .hold ∧ (r .now).mode = .now ∧
      (r .atSegment).mode = .atSegment := by decide

/-- Each kind that an update can activate: a GOTO at its window and one mdeg outside it, a HOME, which arms the capture, and a
STREAM with no fresh rate; behind no segment, and behind a reloaded HOME; and a HOME that its time limit ends. -/
theorem witness_AxisUpdateMeasuresAndHandsOff_activation :
    let g (k : SegKind) (v : Int) : Segment := { holdSegment with kind := k, value := v, cap := 1000 }
    let c (d : Int) : ActiveSegment :=
      { seg := { holdSegment with kind := .home, duration := d, cap := 1000 }, elapsed := 500, followed := true
        syncMissed := false }
    let s (w : List Segment) (act : Option ActiveSegment) :=
      (powered .tracking jointRecord).modAxis 0 fun x =>
        { x with waiting := w, active := act, meas := { x.meas with reloadPending := act.isSome } }
    let t (w : List Segment) (act : Option ActiveSegment) := after (.axisUpdate 0) (s w act)
    (s [g .goto 50] none).StallQuiet 0 ∧ (s [g .goto 50] none).WatchesQuiet 0 ∧
      ((t [g .goto 50] none).axis 0).active.isNone = true ∧ ((t [g .goto 51] none).axis 0).active.isSome = true ∧
      ((t [g .home 60000] none).axis 0).gen.homeStart = some 0 ∧
      ((t [g .home 60000] none).encoders.get 0).armed = true ∧
      ((t [g .stream 0] none).axis 0).stream.lapse = .lapsed ∧ ((t [g .stream 0] (some (c 0))).axis 0).waiting = [] ∧
      (c 1).seg.duration ≠ 0 ∧ (c 1).seg.duration * 1000 ≤ (c 1).elapsed + jointRecord.period := by
  refine ⟨fun h => absurd h (by decide), by unfold State.WatchesQuiet; decide, ?_⟩
  decide

/-- A DISABLED axis, and on a configured one the three classes of levels; a raise that waited, for a condition that holds
still and for one that has ended; and a test on an IDLE axis. -/
theorem witness_RaiseMakesTheEntryAndReacts :
    let s := { powered .tracking jointRecord with owed := [(0, .linkSilence), (0, .stopLine)] }
    let u := (powered .idle jointRecord).modAxis 0 fun x => { x with test := { x.test with running := true } }
    (State.reset.axis 0).life = .disabled ∧ ((powered .tracking jointRecord).axis 0).life ≠ .disabled ∧
      State.reset.reactions.get .tracking = .stop ∧ State.reset.reactions.get .sensorStall = .brake ∧
      State.reset.reactions.get .overcurrent = .open ∧ ((powered .tracking jointRecord).axis 0).life.powered = true ∧
      ((after (.faultRaise 0 .overcurrent) (powered .tracking jointRecord)).axis 0).life = .faulted ∧
      (0, .linkSilence) ∈ s.owed ∧ s.link.silence ≠ none ∧ (0, .stopLine) ∈ s.owed ∧
      s.stopLine.mode ≠ some .latch ∧ { StopLine.reset true with pause := false }.mode = some .latch ∧
      (u.axis 0).life = .idle ∧ (u.axis 0).test.running = true := by decide

/-- One state for each timer; the active segment of the last is a live STREAM. -/
theorem witness_AxisTimersExpire :
    let s := (powered .idle jointRecord).modAxis 0 fun x =>
      { x with
        test := { x.test with running := true }
        stream := liveStream
        active := some
          { seg := { holdSegment with kind := .stream }, elapsed := 0, followed := false, syncMissed := false } }
    ((powered .arming jointRecord).axis 0).life = .arming ∧
      ((powered (.stopping .disarm .engage) jointRecord).axis 0).life = .stopping .disarm .engage ∧
      (s.axis 0).test.running = true ∧ (s.axis 0).stream.timer.isSome = true ∧ (s.axis 0).streamTag = some 7 ∧
      (s.axis 0).stream.lapse = .live := by decide

/-- Each clause at its boundary: a rate exactly one step away, and one more; an angle at a 32-bit bound, and past
it. -/
theorem witness_RateStepAndIntegration :
    let next (t r w p : Int) := t + Int.fdiv (r + w * p) 1000000
    (0 : Int) < 1 ∧ |(60 : Int) - 0| ≤ 60 ∧ (60 : Int) < |61 - 0| ∧ (0 : Int) < 61 ∧ (60 : Int) < |(-61) - 0| ∧
      (-61 : Int) < 0 ∧ next 2147483646 0 1000 1000 = 2147483647 ∧ next (-2147483647) 0 (-1000) 1000 = -2147483648 ∧
      2147483647 < next 2147483647 0 1000 1000 ∧ next (-2147483648) 0 (-1000) 1000 < -2147483648 := by decide

/-- A quiet update in each case: under a PAUSE and not; a DECEL that ends and one that goes on; a GOTO exactly at its
window and one mdeg outside it; a limit passed, and met, on a homed JOINT axis; a HOME at its cap and beyond it. -/
theorem witness_RateStepAndIntegration_updates :
    let s (l : Life) (c : Option ActiveSegment) (theta omega : Int) :=
      ((powered l { jointRecord with limMin := -10, limMax := 10 }).modEncoder 0 fun e => { e with homed := true }).modAxis
        0 fun x => { x with active := c, gen := { x.gen with theta := theta, omega := omega, homeStart := some 0 } }
    let c (k : SegKind) (v cap : Int) : Option ActiveSegment :=
      some { seg := { holdSegment with kind := k, value := v, cap := cap }, elapsed := 0, followed := true
             syncMissed := false }
    let g (s : State) := ((after (.axisUpdate 0) s).axis 0).gen
    (s .tracking none 0 0).StallQuiet 0 ∧ (s .tracking none 0 0).WatchesQuiet 0 ∧
      { StopLine.reset true with pause := true }.pause = true ∧ (s .tracking none 0 0).stopLine.pause = false ∧
      (g (s (.stopping .stop .decel) none 0 100)).omega = 0 ∧ (g (s (.stopping .stop .decel) none 0 101)).omega = 1 ∧
      (g (s .tracking (c .goto 50 9) 0 100)).theta = 50 ∧ (g (s .tracking (c .goto 51 9) 0 100)).theta ≠ 51 ∧
      (g (s .tracking (c .rate 60000 0) 9 6000)).theta = 10 ∧ (g (s .tracking (c .rate 60000 0) 9 6000)).latch = some .max ∧
      ((after (.axisUpdate 0) (s .tracking (c .home 60000 12) 9 6000)).axis 0).active.isSome = true ∧
      ((after (.axisUpdate 0) (s .tracking (c .home 60000 11) 9 6000)).axis 0).active.isSome = false := by
  refine ⟨fun h => absurd h (by decide), by unfold State.WatchesQuiet; decide, ?_⟩
  decide

/-- A HOLD that ends at step 2 of R48 makes way, with sync absent, for a SYNC GOTO of a negative duration, whose time limit
step 3 finds reached. -/
theorem test_time_limit_after_activation :
    let s := (powered .tracking jointRecord).modAxis 0 fun x =>
      { x with
        active := some { seg := { holdSegment with duration := 1 }, elapsed := 500, followed := true, syncMissed := false }
        waiting := [{ holdSegment with kind := .goto, value := 60000, cap := 1000, duration := -1, start := .sync 0 }] }
    ((after (.axisUpdate 0) s).axis 0).active = none ∧ ((after (.axisUpdate 0) s).axis 0).waiting = [] ∧
      ((after (.axisUpdate 0) s).axis 0).gen.target = 0 := by decide

/-- The segment an update follows: a timed RATE one update short of its duration and at it, and one activated behind it. -/
theorem witness_RateStepAndIntegration_followed :
    let g : Segment := { holdSegment with kind := .rate, value := 60000, duration := 1 }
    let s (w : List Segment) (e : Int) :=
      (powered .tracking jointRecord).modAxis 0 fun x =>
        { x with
          waiting := w
          active := some { seg := { g with value := -60000 }, elapsed := e, followed := true, syncMissed := false } }
    let target (s : State) := ((after (.axisUpdate 0) s).axis 0).gen.target
    (s [g] 499).StallQuiet 0 ∧ (s [g] 499).WatchesQuiet 0 ∧ target (s [] 499) = -60000 ∧ target (s [] 500) = 0 ∧
      target (s [g] 500) = 60000 := by
  refine ⟨fun h => absurd h (by decide), by unfold State.WatchesQuiet; decide, ?_⟩
  decide

theorem witness_LoopOutputStaysWithinTheLimit :
    let l := { AxisState.reset.loop with integ := 256000, uPrev := 450 }
    let x := (powered .tracking jointRecord).axis 0
    0 ≤ x.cfg.torque ∧ (0 : Int) ≤ 500 ∧ 0 < x.cfg.slew ∧ -256000 ≤ l.integ ∧ l.integ ≤ 256000 ∧
      x.driveLimit 500 = 450 ∧ -x.driveLimit 500 ≤ l.uPrev ∧ l.uPrev ≤ x.driveLimit 500 := by decide

/-- An update of each kind: paused and not; with a vehicle sample and silent; a tracking timer one update short of its
full value; a joint angle at the widened limit and beyond it. -/
theorem witness_LoopOutputStaysWithinTheLimit_updates :
    let s := (powered .tracking { jointRecord with vehChannel := 2, trackTime := 1, limMax := 5, num := 1, den := 1 }).modAxis
      0 fun x => { x with gen := { x.gen with theta := 5001 }, loop := { x.loop with trackTimer := 500 } }
    let j (n : Nat) := { s.modEncoder 0 fun e => { e with homed := true, count := BitVec.ofNat 32 n } with
      vehicle := { VehicleRecord.reset with stale := false } }
    s.StallQuiet 0 ∧ ((after (.axisUpdate 0) s).axis 0).life.powered = true ∧ (s.axis 0).cfg.vehChannel ≠ 0 ∧
      s.vehicle.stale = true ∧ (j 5).vehicle.stale = false ∧ s.stopLine.pause = false ∧
      ((after (.axisUpdate 0) s).axis 0).loop.trackTimer = 1000 ∧
      hasPresent ((after (.axisUpdate 0) s).axis 0).faults .tracking = true ∧
      ((after (.axisUpdate 0) (j 5)).axis 0).loop.overrun = .inside ∧
      ((after (.axisUpdate 0) (j 5)).axis 0).life.powered = true ∧
      ({ s.stopLine with pause := true } : StopLine).pause = true := by
  refine ⟨fun h => absurd h (by decide), ?_⟩
  decide

/-- A mark that is crossed exactly at the angle reached, and one that is not, at the angle left. -/
theorem witness_MarkCheckReportsCrossings :
    let m (a : Int) : Mark := { angle := a, direction := .either, mode := .once, enabled := true }
    let s := (powered .tracking jointRecord).modAxis 0 fun x =>
      { x with marks := ⟨some (m 0), some (m (-8)), none, none⟩ }
    (s.axis 0).markSkip = false ∧ (s.axis 0).marks.get 0 = some (m 0) ∧ (s.axis 0).meas.theta = 0 ∧
      (s.axis 0).marks.get 1 = some (m (-8)) ∧ crossingOf (-8) 0 0 = some .up ∧ crossingOf (-8) 0 (-8) = none := by
  decide

/-- An update that checks a mark at the angle it reaches, one that skips the check, and one with a reload. -/
theorem witness_MarkCheckReportsCrossings_updates :
    let m : Mark := { angle := 0, direction := .up, mode := .once, enabled := true }
    let s (skip reload : Bool) := (powered .tracking jointRecord).modAxis 0 fun x =>
      { x with marks := .fill (some m), markSkip := skip, meas := { x.meas with theta := -1, reloadPending := reload } }
    (s false false).StallQuiet 0 ∧ ((s false false).axis 0).markSkip = false ∧
      ((s false false).axis 0).meas.reloadPending = false ∧ ((s true false).axis 0).markSkip = true ∧
      ((s false true).axis 0).meas.reloadPending = true ∧
      ((after (.axisUpdate 0) (s false false)).axis 0).marks.get 3 = some { m with enabled := false } := by
  refine ⟨fun h => absurd h (by decide), ?_⟩
  decide

/-! ### The device-wide blocks -/

theorem witness_LinkSilenceRaisesOnEveryAxis :
    (powered .tracking jointRecord).link.silence.isSome = true ∧
      ((powered .tracking jointRecord).axis 0).life ≠ .disabled ∧ (0 : Axis) ∈ [(0 : Axis)] ∧
      (0 : Axis) ∉ [(1 : Axis)] := by decide

/-- Both kinds of edge; a segment that counts 2 edges, one that counts 1, and a loss. -/
theorem witness_SyncEdgesCountAndLossStarts :
    let s (n : Nat) := { powered .tracking jointRecord with
        sync := { Sync.reset false with lossTimer := some ⟨0, 100000⟩ } }.modAxis 0 fun x =>
      { x with waiting := [holdSegment], counting := some n }
    true ≠ (s 2).sync.level ∧ (s 2).settings.edge = .rising ∧
      false ≠ { Sync.reset true with present := false }.level ∧ (s 2).sync.present = false ∧ (s 2).groups = [] ∧
      ((s 2).axis 0).counting = some (0 + 2) ∧ ((s 1).axis 0).counting = some 1 ∧
      ((s 1).axis 0).waiting = holdSegment :: [] ∧ (s 1).sync.lossTimer.isSome = true := by decide

/-- A group that counts 2 edges, one that counts 1, and its member. -/
theorem witness_SyncEdgesCountAndLossStarts_groups :
    let e (n : Nat) : GroupEntry :=
      { id := 1, members := 0x1#4, start := .sync 1, queued := 0x1#4, arrived := 0x1#4, remaining := some n
        syncMissed := false }
    let s (n : Nat) := { powered .tracking jointRecord with groups := [e n] }.modAxis 0 fun x =>
      { x with waiting := [{ holdSegment with group := 1, members := 0x1#4, start := .sync 1 }] }
    (∀ a : Axis, ((s 2).axis a).counting = none) ∧ (∀ f ∈ (s 2).groups, ∀ n, f.remaining = some n → 2 ≤ n) ∧
      (s 1).groups = [e 1] ∧ (e 1).remaining = some 1 ∧ (e 1).members.getLsbD 0 = true ∧
      ((s 1).axis 0).waiting.length = 1 := by
  refine ⟨by decide, ?_, by decide, rfl, rfl, by decide⟩
  intro f hf n hn
  cases List.mem_singleton.mp hf
  cases hn
  decide

/-- The interval timer runs at an interval and at OFF. -/
theorem witness_TelemetryComposesOneReport :
    { Link.reset with telemetryCode := 1, telemetryMask := 15, telemetryTimer := some ⟨0, 1000⟩ }.telemetryTimer.isSome =
        true ∧
      { Link.reset with telemetryTimer := some ⟨0, 1000⟩ }.telemetryTimer.isSome = true := by decide

/-- Readings at V_cut, one above it, at V_over, and one above it; an axis in the order and one left out of it. -/
theorem witness_BusSampleDeratesAndRaises :
    let x := (powered .idle jointRecord).settings
    clamp 360 0 1000 ≤ x.vCut ∧ x.vCut < clamp 361 0 1000 ∧ clamp 560 0 1000 ≤ x.vOver ∧ x.vOver < clamp 561 0 1000 ∧
      ((powered .idle jointRecord).axis 0).life ≠ .disabled ∧ [(0 : Axis)].contains 0 = true ∧
      [(1 : Axis)].contains 0 = false := by decide

/-- A high side and a low side that are on at the end of a period, and a leg none of whose dead times runs. -/
theorem witness_PwmBoundaryLatchesTheDuty :
    let d : Drive := { AxisState.reset.drive with state := .run, duty := 1000, deadTime := 500 }
    (d.gates 49999).1 = true ∧ (d.gates 49999).2.2.2 = true ∧ (0 : Int) < jointRecord.deadTime ∧
      d.guardA.offUntil ≤ 0 ∧ d.guardA.highFrom ≤ 0 ∧ d.guardB.offUntil ≤ 0 ∧ d.guardB.highFrom ≤ 0 ∧ 0 ≤ d.deadTime ∧
      0 < d.duty := by decide

/-- In RUN at the trip and one beyond it, and out of RUN. -/
theorem witness_CurrentSampleTripsBeyondTheTrip :
    let s := (powered .idle jointRecord).modAxis 0 fun x => { x with drive := { x.drive with state := .run } }
    (s.axis 0).drive.state = .run ∧ magnitude (clamp (-12000) (-32767) 32767) ≤ (s.axis 0).cfg.trip ∧
      (s.axis 0).cfg.trip < magnitude (clamp (-12001) (-32767) 32767) ∧ (s.axis 0).life ≠ .disabled ∧
      s.reactions.overcurrent = .open ∧ ((powered .idle jointRecord).axis 0).drive.state ≠ .run := by decide

/-- A released line under each stored mode, and an assertion in force in each; a running test; a high side that is on at
the assertion, in mid period and with the boundary still to be taken. -/
theorem witness_StopLineStopsAndReleases :
    let p : StopLine := { asserted := true, mode := some .pause, pause := true }
    let l : StopLine := StopLine.reset true
    let d (b : Bool) : Drive :=
      { AxisState.reset.drive with state := .run, duty := 1000, deadTime := 500, boundaryDue := b }
    (powered .tracking jointRecord).stopLine.asserted = false ∧ State.reset.settings.stopMode = .latch ∧
      { Settings.default with stopMode := .pause }.stopMode = .pause ∧
      ((powered .tracking jointRecord).axis 0).life.powered = true ∧
      ((powered .tracking jointRecord).axis 0).test.running = false ∧
      ((powered .tracking jointRecord).axis 0).life ≠ .disabled ∧ p.asserted = true ∧ p.mode = some .pause ∧
      l.asserted = true ∧ l.mode = some .latch ∧ ((powered .idle jointRecord).axis 0).life = .idle ∧
      { AxisState.reset.test with running := true }.running = true ∧ ((d false).gates (25000 - 1)).1 = true ∧
      ((d true).gates (50000 - 1)).1 = true := by decide

end Sys2Proof.Tests
end

namespace Sys2Proof.Machine

/-! ### What the operations of one axis leave of the other axes

`State.deviceRest` holds what they leave outside the axes; with the value below it makes up the frame of an update and of
a raise (R69, R119). -/

/-- The axes other than one, each with all that the Sequencer writes blanked: a group that breaks or fires at one axis
reaches the queues of its other members, and nothing else of them (R58, R60). -/
def State.othersRest (s : State) (a : Axis) : Four AxisState := (s.axes.set a .reset).map AxisState.seqRest

/-- What stands through the Sequencer stands of the other axes. -/
theorem State.othersRest_of_seqRest {s t : State} (h : t.seqRest = s.seqRest) (a : Axis) :
    t.othersRest a = s.othersRest a := by
  have e : t.axes.map AxisState.seqRest = s.axes.map AxisState.seqRest := congrArg State.axes h
  rw [State.othersRest, State.othersRest, Four.map_set, Four.map_set, e]

/-- Equal rests of the other axes are equal rests of each of them. -/
theorem State.axis_of_othersRest {s t : State} {a b : Axis} (h : t.othersRest a = s.othersRest a) (hb : b ≠ a) :
    (t.axis b).seqRest = (s.axis b).seqRest := by
  have e := congrArg (fun v => v.get b) h
  simpa [State.othersRest, State.axis, hb] using e

section

variable (s : State) (a : Axis)

@[simp] theorem State.modAxis_othersRest (f : AxisState → AxisState) :
    (s.modAxis a f).othersRest a = s.othersRest a := by
  refine Four.ext_get fun b => ?_
  by_cases hb : b = a
  · subst hb; simp [State.othersRest]
  · simp [State.othersRest, State.modAxis, hb]

@[simp] theorem State.takeOwed_othersRest (k : FaultKind) : (s.takeOwed a k).othersRest a = s.othersRest a := rfl

@[simp] theorem State.startTransmit_othersRest : s.startTransmit.othersRest a = s.othersRest a := by
  rcases startTransmit_cases s with h | ⟨-, replies, reports, tx, h⟩
  · rw [h]
  · rw [h]; rfl

/-! #### The Sequencer and the outbound queue -/

@[simp] theorem State.queueReport_othersRest (r : Report) : (s.queueReport r).othersRest a = s.othersRest a := rfl

@[simp] theorem State.queueEvent_othersRest (k : EventKind) : (s.queueEvent k).othersRest a = s.othersRest a := rfl

@[simp] theorem State.setCapture_othersRest (b : Bool) : (s.setCapture a b).othersRest a = s.othersRest a :=
  State.othersRest_of_seqRest (s.setCapture_seqRest a b) a

@[simp] theorem State.judge_othersRest (l : List Axis) : (s.judge l).othersRest a = s.othersRest a :=
  State.othersRest_of_seqRest (s.judge_seqRest l) a

@[simp] theorem State.completeActive_othersRest (o : SegOutcome) :
    (s.completeActive a o).othersRest a = s.othersRest a :=
  State.othersRest_of_seqRest (s.completeActive_seqRest a o) a

@[simp] theorem State.flushAll_othersRest (o : SegOutcome) : (s.flushAll a o).othersRest a = s.othersRest a :=
  State.othersRest_of_seqRest (s.flushAll_seqRest a o) a

@[simp] theorem State.sequencerStep_othersRest (r : Bool) : (s.sequencerStep a r).othersRest a = s.othersRest a :=
  State.othersRest_of_seqRest (s.sequencerStep_seqRest a r) a

/-! #### The Axis Controller and the Drive Stage -/

@[simp] theorem State.setLife_othersRest (l : Life) : (s.setLife a l).othersRest a = s.othersRest a :=
  s.modAxis_othersRest a _

@[simp] theorem State.setBrake_othersRest (b : Bool) : (s.setBrake a b).othersRest a = s.othersRest a :=
  s.modAxis_othersRest a _

@[simp] theorem State.requestDrive_othersRest (st : DriveState) : (s.requestDrive a st).othersRest a = s.othersRest a :=
  s.modAxis_othersRest a _

@[simp] theorem State.placeDrive_othersRest (st : DriveState) : (s.placeDrive a st).othersRest a = s.othersRest a :=
  s.modAxis_othersRest a _

@[simp] theorem State.enterFaulted_othersRest : (s.enterFaulted a).othersRest a = s.othersRest a := by
  simp [State.enterFaulted, State.leavePowered]

@[simp] theorem State.enterEngage_othersRest : (s.enterEngage a).othersRest a = s.othersRest a := by
  simp [State.enterEngage]

@[simp] theorem State.decelTest_othersRest : (s.decelTest a).othersRest a = s.othersRest a := by
  unfold State.decelTest State.decelEnd
  split
  · split <;> simp
  · rfl

@[simp] theorem State.abortTest_othersRest : (s.abortTest a).othersRest a = s.othersRest a := by
  unfold State.abortTest
  split
  · simp [State.testDone, State.clearTest]
  · rfl

/-! #### The Fault Monitor -/

@[simp] theorem State.react_othersRest (l : Level) : (s.react a l).othersRest a = s.othersRest a := by
  unfold State.react
  split
  · rfl
  · rfl
  · unfold State.reactStop
    split <;> simp
  · unfold State.reactBrake
    split_ifs <;> simp
  · unfold State.reactOpen
    split_ifs <;> simp

@[simp] theorem State.raise_othersRest (k : FaultKind) : (s.raise a k).othersRest a = s.othersRest a := by
  unfold State.raise State.settleOvercurrent State.reportFault
  split
  · dsimp only
    split <;> simp [State.raiseEntry]
  · rfl

/-- A raise as an event leaves the other axes their rest (R119). -/
@[simp] theorem State.faultRaise_othersRest (k : FaultKind) : (s.faultRaise a k).othersRest a = s.othersRest a := by
  unfold State.faultRaise State.settleOwed
  split <;> simp

/-! #### The stages of an update -/

@[simp] theorem State.measure_othersRest : (s.measure a).othersRest a = s.othersRest a := by
  unfold State.measure
  dsimp only
  split <;> simp

@[simp] theorem State.staleCheck_othersRest : (s.staleCheck a).othersRest a = s.othersRest a := by
  unfold State.staleCheck
  split <;> simp

@[simp] theorem State.moveStage_othersRest (h : Bool) : (s.moveStage a h).othersRest a = s.othersRest a := by
  have event : ∀ (u : State) (l m : Option LimitSide), (u.limitStopEvent a l m).othersRest a = u.othersRest a := by
    intro u l m
    unfold State.limitStopEvent
    split
    · rfl
    · split <;> simp
  unfold State.moveStage
  dsimp only
  rw [event]
  split <;> simp

@[simp] theorem State.followStage_othersRest (h : Bool) : (s.followStage a h).othersRest a = s.othersRest a := by
  unfold State.followStage
  dsimp only
  split <;> simp

@[simp] theorem State.homedEvent_othersRest : (s.homedEvent a).othersRest a = s.othersRest a := by
  unfold State.homedEvent
  dsimp only
  split <;> simp

@[simp] theorem State.setpointStage_othersRest (r h : Bool) :
    (s.setpointStage a r h).othersRest a = s.othersRest a := by
  unfold State.setpointStage
  dsimp only
  split_ifs <;> simp

@[simp] theorem State.checkMark_othersRest (p : Int) (i : Fin 4) :
    (s.checkMark a p i).othersRest a = s.othersRest a := by
  unfold State.checkMark
  split
  · rfl
  · split <;> simp

@[simp] theorem State.markStage_othersRest (p : Int) (r : Bool) :
    (s.markStage a p r).othersRest a = s.othersRest a := by
  unfold State.markStage
  split <;> simp

@[simp] theorem State.loopStage_othersRest (g m : Gains) : (s.loopStage a g m).othersRest a = s.othersRest a :=
  s.modAxis_othersRest a _

@[simp] theorem State.trackingWatch_othersRest : (s.trackingWatch a).othersRest a = s.othersRest a := by
  unfold State.trackingWatch
  dsimp only
  split_ifs <;> simp

@[simp] theorem State.saturationWatch_othersRest : (s.saturationWatch a).othersRest a = s.othersRest a := by
  unfold State.saturationWatch
  dsimp only
  split_ifs <;> simp

@[simp] theorem State.overrunWatch_othersRest (j : Option Int) (x h : Bool) :
    (s.overrunWatch a j x h).othersRest a = s.othersRest a := by
  unfold State.overrunWatch
  dsimp only
  split_ifs <;> simp

@[simp] theorem State.watchStage_othersRest (j : Option Int) (x h : Bool) :
    (s.watchStage a j x h).othersRest a = s.othersRest a := by
  unfold State.watchStage State.ifPowered
  split_ifs <;> simp

@[simp] theorem State.laterStages_othersRest (p : Int) (r h : Bool) (j : Option Int) (g m : Gains) :
    (s.laterStages a p r h j g m).othersRest a = s.othersRest a := by
  simp [State.laterStages]

/-- An update leaves the other axes their rest (R69). -/
@[simp] theorem State.axisUpdate_othersRest : (s.axisUpdate a).othersRest a = s.othersRest a := by
  unfold State.axisUpdate
  split
  · dsimp only
    split <;> simp
  · rfl

end

/-- The blocks of the device beside the axes that an update or a raise leaves alone (R68, R69, R119). -/
theorem State.blocks_of_deviceRest {s t : State} (h : t.deviceRest = s.deviceRest) :
    t.settings = s.settings ∧ t.reactions = s.reactions ∧ t.bus = s.bus ∧ t.stopLine = s.stopLine ∧
      t.sync = s.sync ∧ t.time = s.time ∧ t.head = s.head ∧ t.vehicle = s.vehicle ∧ t.bias = s.bias ∧
      t.shock = s.shock ∧ t.link.inbound = s.link.inbound ∧ t.link.silence = s.link.silence := by
  have keep {α : Type} (f : State → α) : f t.deviceRest = f s.deviceRest := congrArg f h
  exact ⟨keep State.settings, keep State.reactions, keep State.bus, keep State.stopLine, keep State.sync,
    keep State.time, keep State.head, keep State.vehicle, keep State.bias, keep State.shock,
    keep fun u => u.link.inbound, keep fun u => u.link.silence⟩

/-- The parts of an axis that the Sequencer never writes. -/
theorem AxisState.parts_of_seqRest {x y : AxisState} (h : y.seqRest = x.seqRest) :
    y.life = x.life ∧ y.cfg = x.cfg ∧ y.drive = x.drive ∧ y.test = x.test ∧ y.faults = x.faults ∧
      y.loop = x.loop ∧ y.meas = x.meas ∧ y.marks = x.marks ∧ y.gen.theta = x.gen.theta ∧
      y.gen.rem = x.gen.rem ∧ y.gen.omega = x.gen.omega := by
  have keep {α : Type} (f : AxisState → α) : f y.seqRest = f x.seqRest := congrArg f h
  exact ⟨keep AxisState.life, keep AxisState.cfg, keep AxisState.drive, keep AxisState.test, keep AxisState.faults,
    keep AxisState.loop, keep AxisState.meas, keep AxisState.marks, keep fun u => u.gen.theta,
    keep fun u => u.gen.rem, keep fun u => u.gen.omega⟩

/-- Settles O14: the other axes keep their rest and the device keeps its blocks through an update, and through a raise,
which beyond that takes itself from the raises that wait. -/
theorem axisEventsLeaveOtherAxes : Obligations.AxisEventsLeaveOtherAxes := by
  unfold Obligations.AxisEventsLeaveOtherAxes
  rintro s t a (h | ⟨k, h⟩)
  · obtain rfl : (s.axisUpdate a).startTransmit = t := Host.Outcome.next.inj h
    have others : (s.axisUpdate a).startTransmit.othersRest a = s.othersRest a := by simp
    have device : (s.axisUpdate a).startTransmit.deviceRest = s.deviceRest := by simp
    exact ⟨fun b hb => AxisState.parts_of_seqRest (State.axis_of_othersRest others hb),
      State.blocks_of_deviceRest device⟩
  · obtain rfl : s.faultRaise a k = t := Host.Outcome.next.inj h
    have others : (s.faultRaise a k).othersRest a = s.othersRest a := s.faultRaise_othersRest a k
    have device : (s.faultRaise a k).deviceRest = (s.takeOwed a k).deviceRest := s.faultRaise_deviceRest a k
    exact ⟨fun b hb => AxisState.parts_of_seqRest (State.axis_of_othersRest others hb),
      State.blocks_of_deviceRest (s := s.takeOwed a k) device⟩

end Sys2Proof.Machine

namespace Sys2Proof.Machine

/-! ### What no command touches

The queue of waiting commands and the count of free choices are read as one value.  What an operation of one axis leaves
by `State.deviceRest` holds them, so that only the device-wide operations have lemmas of their own here. -/

/-- The model's own fields (log entry 6): the commands that wait, and the count of free choices. -/
def State.modelsOwn (s : State) : List Instr × Nat := (s.pending, s.freeCount)

/-- What stands of the device holds the model's own fields. -/
theorem State.modelsOwn_of_deviceRest {s t : State} (h : t.deviceRest = s.deviceRest) : t.modelsOwn = s.modelsOwn := by
  have e := congrArg State.modelsOwn h
  exact e

/-- Steps that each keep the model's own fields keep them together. -/
theorem foldl_modelsOwn {α : Type} {f : State → α → State} (h : ∀ s x, (f s x).modelsOwn = s.modelsOwn) (l : List α)
    (s : State) : (l.foldl f s).modelsOwn = s.modelsOwn := by
  induction l generalizing s with
  | nil => rfl
  | cons x l ih => rw [List.foldl_cons, ih, h]

section

variable (s : State)

theorem State.startTransmit_modelsOwn : s.startTransmit.modelsOwn = s.modelsOwn :=
  State.modelsOwn_of_deviceRest s.startTransmit_deviceRest

theorem State.raise_modelsOwn (a : Axis) (k : FaultKind) : (s.raise a k).modelsOwn = s.modelsOwn :=
  State.modelsOwn_of_deviceRest (s.raise_deviceRest a k)

theorem State.raiseEach_modelsOwn (l : List Axis) (k : FaultKind) (p : AxisState → Bool) :
    (s.raiseEach l k p).modelsOwn = s.modelsOwn :=
  State.modelsOwn_of_deviceRest (s := s.handOver (raisesLater l (s.axesWhere p)) k) (State.raiseAll_deviceRest _ _ k)

/-! #### The Control Link -/

theorem State.transmitEnd_modelsOwn : s.transmitEnd.modelsOwn = s.modelsOwn := by
  unfold State.transmitEnd
  split_ifs
  · rfl
  · rfl
  · exact s.clearTx.startTransmit_modelsOwn

theorem State.streamEntry_modelsOwn (e : Byte × Int) : (s.streamEntry e).modelsOwn = s.modelsOwn := by
  unfold State.streamEntry State.storeStream
  split
  · rfl
  · dsimp only
    split
    · split
      · rfl
      · split <;> rfl
    · rfl

theorem State.streamMessage_modelsOwn (p : List Byte) : (s.streamMessage p).modelsOwn = s.modelsOwn := by
  unfold State.streamMessage
  split
  · rfl
  · exact foldl_modelsOwn State.streamEntry_modelsOwn _ s

theorem State.enqueueRequest_modelsOwn (r : Request) : (s.enqueueRequest r).modelsOwn = s.modelsOwn := by
  unfold State.enqueueRequest
  split <;> rfl

theorem State.validFrame_modelsOwn (type : Byte) (tag : Tag) (payload : List Byte) :
    (s.validFrame type tag payload).modelsOwn = s.modelsOwn := by
  unfold State.validFrame
  split
  · exact s.linkHeard.streamMessage_modelsOwn payload
  · exact s.linkHeard.enqueueRequest_modelsOwn _

theorem State.judgeFrame_modelsOwn (b : List Byte) : (s.judgeFrame b).modelsOwn = s.modelsOwn := by
  unfold State.judgeFrame
  dsimp only
  split
  · exact s.validFrame_modelsOwn _ _ _
  · rfl

theorem State.takeLinkCharacter_modelsOwn (c : Byte) : (s.takeLinkCharacter c).modelsOwn = s.modelsOwn := by
  unfold State.takeLinkCharacter
  cases s.link.framer.state with
  | hunt =>
    dsimp only
    split <;> rfl
  | header =>
    dsimp only [State.takeHeader]
    split <;> split <;> rfl
  | payload => rfl
  | check =>
    dsimp only [State.takeCheck]
    split
    · rfl
    · exact (s.setFramer .hunt []).judgeFrame_modelsOwn _

theorem State.linkGap_modelsOwn : s.linkGap.modelsOwn = s.modelsOwn := by
  unfold State.linkGap
  split <;> rfl

theorem State.linkSilent_modelsOwn (order : List Axis) : (s.linkSilent order).modelsOwn = s.modelsOwn := by
  unfold State.linkSilent
  split
  · rfl
  · exact State.raiseEach_modelsOwn _ _ _ _

theorem State.telemetryExpiry_modelsOwn : s.telemetryExpiry.modelsOwn = s.modelsOwn := by
  unfold State.telemetryExpiry
  split
  · rfl
  · exact State.startTransmit_modelsOwn _

/-! #### The Measurement Unit -/

theorem State.abortCapture_modelsOwn (why : AbortReason) : (s.abortCapture why).modelsOwn = s.modelsOwn := by
  unfold State.abortCapture
  split <;> rfl

theorem State.feedCapture_modelsOwn (r : Rates) : (s.feedCapture r).modelsOwn = s.modelsOwn := by
  unfold State.feedCapture State.addSample
  split
  · rfl
  · split_ifs
    · exact s.abortCapture_modelsOwn _
    · exact s.abortCapture_modelsOwn _
    · rfl
    · rfl

theorem State.acceptHead_modelsOwn (p : List Byte) : (s.acceptHead p).modelsOwn = s.modelsOwn :=
  State.feedCapture_modelsOwn _ _

theorem State.feedShock_modelsOwn (az : Int) : (s.feedShock az).modelsOwn = s.modelsOwn := by
  unfold State.feedShock
  dsimp only
  split_ifs
  · rfl
  · exact State.abortCapture_modelsOwn _ _
  · rfl

theorem State.vehicleStillness_modelsOwn (r : Rates) : (s.vehicleStillness r).modelsOwn = s.modelsOwn := by
  unfold State.vehicleStillness
  split
  · exact s.abortCapture_modelsOwn _
  · rfl

theorem State.acceptVehicle_modelsOwn (p : List Byte) : (s.acceptVehicle p).modelsOwn = s.modelsOwn := by
  unfold State.acceptVehicle
  dsimp only
  rw [State.vehicleStillness_modelsOwn, State.feedShock_modelsOwn]
  split <;> rfl

theorem State.setPort_modelsOwn (p : SensorPort) (x : PortState) : (s.setPort p x).modelsOwn = s.modelsOwn := by
  cases p <;> rfl

theorem State.judgeSensorFrame_modelsOwn (p : SensorPort) (b : List Byte) :
    (s.judgeSensorFrame p b).modelsOwn = s.modelsOwn := by
  unfold State.judgeSensorFrame
  split
  · cases p with
    | head => exact s.acceptHead_modelsOwn b
    | vehicle => exact s.acceptVehicle_modelsOwn b
  · rfl

theorem State.takeSensorCharacter_modelsOwn (p : SensorPort) (c : Byte) :
    (s.takeSensorCharacter p c).modelsOwn = s.modelsOwn := by
  unfold State.takeSensorCharacter
  split
  · split
    · exact s.setPort_modelsOwn p _
    · rfl
  · split
    · exact s.setPort_modelsOwn p _
    · rw [State.judgeSensorFrame_modelsOwn, State.setPort_modelsOwn]

theorem State.headGone_modelsOwn (order : List Axis) : (s.headGone order).modelsOwn = s.modelsOwn := by
  unfold State.headGone
  split
  · rfl
  · rw [State.startTransmit_modelsOwn, State.abortCapture_modelsOwn, State.raiseEach_modelsOwn]
    rfl

theorem State.vehicleGone_modelsOwn : s.vehicleGone.modelsOwn = s.modelsOwn := by
  unfold State.vehicleGone
  split
  · rfl
  · exact State.startTransmit_modelsOwn _

theorem State.settled_modelsOwn : s.settled.modelsOwn = s.modelsOwn := by
  unfold State.settled
  split <;> rfl

theorem State.phaseSample_modelsOwn (i : Input) (a b : Bool) : (s.phaseSample i a b).modelsOwn = s.modelsOwn := by
  unfold State.phaseSample State.illegal
  dsimp only
  split_ifs
  · rfl
  · rfl
  · split
    · rfl
    · exact State.raise_modelsOwn _ _ _
  · rfl

theorem State.holdOver_modelsOwn (i : Input) : (s.holdOver i).modelsOwn = s.modelsOwn := by
  unfold State.holdOver
  dsimp only
  split
  · rfl
  · split <;> rfl

theorem State.indexReload_modelsOwn (i : Input) : (s.indexReload i).modelsOwn = s.modelsOwn := by
  unfold State.indexReload
  split <;> rfl

/-! #### The expiries of one axis -/

section

variable (a : Axis)

theorem State.axisUpdate_modelsOwn : (s.axisUpdate a).modelsOwn = s.modelsOwn :=
  State.modelsOwn_of_deviceRest (s.axisUpdate_deviceRest a)

theorem State.faultRaise_modelsOwn (k : FaultKind) : (s.faultRaise a k).modelsOwn = s.modelsOwn :=
  State.modelsOwn_of_deviceRest (s := s.takeOwed a k) (s.faultRaise_deviceRest a k)

theorem State.armingOver_modelsOwn : (s.armingOver a).modelsOwn = s.modelsOwn :=
  State.modelsOwn_of_deviceRest (State.ite_deviceRest (by simp) rfl)

theorem State.engageOver_modelsOwn : (s.engageOver a).modelsOwn = s.modelsOwn :=
  State.modelsOwn_of_deviceRest (State.ite_deviceRest (by simp) rfl)

theorem State.testOver_modelsOwn : (s.testOver a).modelsOwn = s.modelsOwn :=
  State.modelsOwn_of_deviceRest (State.ite_deviceRest (by simp) rfl)

theorem State.streamOver_modelsOwn : (s.streamOver a).modelsOwn = s.modelsOwn := by
  unfold State.streamOver State.streamExpiry
  dsimp only
  split
  · rfl
  · rw [State.startTransmit_modelsOwn]
    split
    · rfl
    · split <;> rfl

end

/-! #### Frame sync, bus, drive stages and stop line -/

theorem State.syncLossStarts_modelsOwn : s.syncLossStarts.modelsOwn = s.modelsOwn :=
  State.modelsOwn_of_deviceRest s.syncLossStarts_deviceRest

theorem State.takeSyncLevel_modelsOwn (level : Bool) : (s.takeSyncLevel level).modelsOwn = s.modelsOwn := by
  have restore : ∀ u : State, u.restoreSync.modelsOwn = u.modelsOwn := by
    intro u
    unfold State.restoreSync
    split <;> rfl
  unfold State.takeSyncLevel
  dsimp only
  split_ifs
  · rfl
  · rw [State.startTransmit_modelsOwn, State.modelsOwn_of_deviceRest (State.countEdge_deviceRest _), restore]
    rfl
  · rfl

theorem State.loseSync_modelsOwn : s.loseSync.modelsOwn = s.modelsOwn := by
  unfold State.loseSync
  split
  · rfl
  · rw [State.startTransmit_modelsOwn, State.syncLossStarts_modelsOwn]
    rfl

theorem State.sampleBus_modelsOwn (reading : Int) (order : List Axis) :
    (s.sampleBus reading order).modelsOwn = s.modelsOwn := by
  have condition : ∀ (u : State) (k : FaultKind) (b : Bool), (u.busCondition k b order).modelsOwn = u.modelsOwn := by
    intro u k b
    unfold State.busCondition
    split
    · exact u.raiseEach_modelsOwn _ _ _
    · rfl
  unfold State.sampleBus
  dsimp only
  rw [condition, condition]
  rfl

theorem State.sampleCurrent_modelsOwn (a : Axis) (reading : Int) :
    (s.sampleCurrent a reading).modelsOwn = s.modelsOwn := by
  have trip : ∀ (u : State) (i : Int), (u.tripTest a i).modelsOwn = u.modelsOwn := by
    intro u i
    unfold State.tripTest
    split
    · exact (u.placeDrive a .open).raise_modelsOwn a _
    · rfl
  unfold State.sampleCurrent
  split
  · rw [State.startTransmit_modelsOwn]
    exact trip (s.storeCurrent a _) _
  · rfl

theorem State.abortTests_modelsOwn : s.abortTests.modelsOwn = s.modelsOwn :=
  foldl_modelsOwn (fun u a => State.modelsOwn_of_deviceRest (u.abortTest_deviceRest a)) allAxes s

theorem State.shortPowered_modelsOwn : s.shortPowered.modelsOwn = s.modelsOwn :=
  foldl_modelsOwn (fun u a => by split <;> rfl) allAxes s

theorem State.runPowered_modelsOwn : s.runPowered.modelsOwn = s.modelsOwn :=
  foldl_modelsOwn (fun u a => by split <;> rfl) allAxes s

theorem State.assertMode_modelsOwn (m : StopMode) (order : List Axis) :
    (s.assertMode m order).modelsOwn = s.modelsOwn := by
  cases m with
  | pause => exact State.shortPowered_modelsOwn _
  | latch => exact s.raiseEach_modelsOwn _ _ _

theorem State.assertStop_modelsOwn (order : List Axis) : (s.assertStop order).modelsOwn = s.modelsOwn := by
  unfold State.assertStop
  split
  · rfl
  · rw [State.startTransmit_modelsOwn, State.assertMode_modelsOwn, State.abortTests_modelsOwn]
    rfl

theorem State.releaseMode_modelsOwn (m : Option StopMode) : (s.releaseMode m).modelsOwn = s.modelsOwn := by
  unfold State.releaseMode
  split
  · exact State.runPowered_modelsOwn _
  · rfl
  · rfl

theorem State.releaseStop_modelsOwn : s.releaseStop.modelsOwn = s.modelsOwn := by
  unfold State.releaseStop
  split
  · rw [State.startTransmit_modelsOwn, State.releaseMode_modelsOwn]
    rfl
  · rfl

end

/-! #### Requests -/

/-- The processing of a request keeps the model's own fields if its owner does (R148). -/
theorem State.process_modelsOwn (s : State) (r : Request) {owner : List Byte → State → Answer}
    (h : ∀ p u, (owner p u).state.modelsOwn = u.modelsOwn) : (s.process r owner).modelsOwn = s.modelsOwn := by
  have answer : (answerRequest r owner s).state.modelsOwn = s.modelsOwn := by
    unfold answerRequest
    split
    · rfl
    · split
      · exact h _ _
      · rfl
  unfold State.process
  split
  · exact (State.startTransmit_modelsOwn _).trans answer
  · rfl

/-- A request on an axis mask keeps the model's own fields if what it does on one axis does (R8). -/
theorem maskRequest_modelsOwn {f : State → Axis → Status × State} (h : ∀ u a, (f u a).2.modelsOwn = u.modelsOwn)
    (mask : Byte) (s : State) : (maskRequest mask f s).state.modelsOwn = s.modelsOwn := by
  have judge : ∀ (l : List Axis) (u : State), (judgeAxes f l u).2.modelsOwn = u.modelsOwn := by
    intro l
    induction l with
    | nil => exact fun _ => rfl
    | cons a l ih => exact fun u => (ih _).trans (h u a)
  unfold maskRequest
  split
  · rfl
  · exact judge _ s

section

variable (p : List Byte) (s : State)

theorem ownSetDevice_modelsOwn : (ownSetDevice p s).state.modelsOwn = s.modelsOwn := by
  have store : ∀ x : Settings, (s.storeSettings x).modelsOwn = s.modelsOwn := by
    intro x
    unfold State.storeSettings State.syncOff
    dsimp only
    split
    · split
      · exact State.syncLossStarts_modelsOwn _
      · rfl
    · rfl
  unfold ownSetDevice
  dsimp only
  split
  · rfl
  · split
    · split
      · rfl
      · exact store _
    · rfl

theorem ownConfigureAxis_modelsOwn : (ownConfigureAxis p s).state.modelsOwn = s.modelsOwn := by
  have applied : ∀ (a : Axis) (r : AxisRecord), (s.applyRecord a r).modelsOwn = s.modelsOwn := by
    intro a r
    unfold State.applyRecord
    split
    · rfl
    · exact State.modelsOwn_of_deviceRest (by simp)
  have record : ∀ (a : Axis) (r : AxisRecord), (judgeRecord s a r).state.modelsOwn = s.modelsOwn := by
    intro a r
    unfold judgeRecord
    split_ifs
    · rfl
    · rfl
    · exact applied a _
  unfold ownConfigureAxis
  split
  · rfl
  · split_ifs
    · rfl
    · rfl
    · split
      · rfl
      · exact State.modelsOwn_of_deviceRest (by simp [State.deconfigure])
      · exact record _ _

theorem ownSetGains_modelsOwn : (ownSetGains p s).state.modelsOwn = s.modelsOwn := by
  unfold ownSetGains
  split
  · split <;> rfl
  · rfl

theorem ownSetReaction_modelsOwn : (ownSetReaction p s).state.modelsOwn = s.modelsOwn := by
  unfold ownSetReaction
  split <;> rfl

theorem ownSetMark_modelsOwn : (ownSetMark p s).state.modelsOwn = s.modelsOwn := by
  unfold ownSetMark
  split
  · split <;> rfl
  · rfl

theorem ownSetTelemetry_modelsOwn : (ownSetTelemetry p s).state.modelsOwn = s.modelsOwn := by
  unfold ownSetTelemetry
  split
  · rfl
  · split <;> rfl

theorem ownArm_modelsOwn : (ownArm p s).state.modelsOwn = s.modelsOwn := by
  refine maskRequest_modelsOwn (fun u a => ?_) _ s
  unfold armOne
  dsimp only
  split <;> rfl

theorem ownStop_modelsOwn : (ownStop p s).state.modelsOwn = s.modelsOwn := by
  refine maskRequest_modelsOwn (fun u a => State.modelsOwn_of_deviceRest ?_) _ s
  unfold stopOne
  split <;> simp

theorem ownDisarm_modelsOwn : (ownDisarm p s).state.modelsOwn = s.modelsOwn := by
  refine maskRequest_modelsOwn (fun u a => State.modelsOwn_of_deviceRest ?_) _ s
  unfold disarmOne
  split <;> simp

theorem ownFlush_modelsOwn : (ownFlush p s).state.modelsOwn = s.modelsOwn := by
  unfold ownFlush
  split
  · rfl
  · refine maskRequest_modelsOwn (fun u a => State.modelsOwn_of_deviceRest ?_) _ s
    unfold flushOne
    split
    · rfl
    · dsimp only
      split <;> simp

theorem ownClearFaults_modelsOwn : (ownClearFaults p s).state.modelsOwn = s.modelsOwn := by
  have clear : ∀ (l : List Axis) (u : State), (clearAxes l u).2.modelsOwn = u.modelsOwn := by
    intro l
    induction l with
    | nil => exact fun _ => rfl
    | cons a l ih =>
      intro u
      unfold clearAxes
      split
      · exact (ih _).trans (State.modelsOwn_of_deviceRest (u.clearAxis_deviceRest a))
      · exact ih u
  unfold ownClearFaults
  split
  · rfl
  · exact clear _ s

theorem ownBiasCapture_modelsOwn : (ownBiasCapture p s).state.modelsOwn = s.modelsOwn := by
  have capture : ∀ m : CaptureMode, (s.beginCapture m).modelsOwn = s.modelsOwn := by
    intro m
    unfold State.beginCapture
    dsimp only
    split
    · exact State.abortCapture_modelsOwn _ _
    · rfl
  unfold ownBiasCapture
  split
  · rfl
  · dsimp only
    split
    · exact capture _
    · rfl

theorem ownDriveTest_modelsOwn : (ownDriveTest p s).state.modelsOwn = s.modelsOwn := by
  unfold ownDriveTest
  split
  · rfl
  · split <;> rfl

theorem ownQueueSegment_modelsOwn : (ownQueueSegment p s).state.modelsOwn = s.modelsOwn := by
  have join : ∀ (u : State) (a : Axis) (g : Segment), (u.joinGroup a g).modelsOwn = u.modelsOwn := by
    intro u a g
    unfold State.joinGroup
    split
    · rfl
    · split <;> rfl
  have accept : ∀ (a : Axis) (g : Segment), (s.acceptSegment a g).modelsOwn = s.modelsOwn := by
    intro a g
    unfold State.acceptSegment
    dsimp only
    split
    · rw [State.modelsOwn_of_deviceRest (State.judge_deviceRest _ _), join]
      rfl
    · exact join _ a g
  unfold ownQueueSegment
  split
  · split
    · rfl
    · exact accept _ _
  · rfl

theorem ownReadAxis_modelsOwn : (ownReadAxis p s).state.modelsOwn = s.modelsOwn := by
  unfold ownReadAxis
  split <;> rfl

end

/-! #### Every command -/

/-- Every command answers a next state, with the model's own fields as they were. -/
theorem exec_modelsOwn (c : Instr) (s : State) : ∃ t, exec c s = .next t ∧ t.modelsOwn = s.modelsOwn := by
  cases c with
  | powerOnReset stopLow fsyncHigh => exact ⟨_, rfl, rfl⟩
  | linkFrameComplete c =>
    exact ⟨_, rfl, (State.startTransmit_modelsOwn _).trans (s.takeLinkCharacter_modelsOwn c)⟩
  | linkFrameGap => exact ⟨_, rfl, s.linkGap_modelsOwn⟩
  | linkFramingError => exact ⟨_, rfl, rfl⟩
  | unknownType type tag payload =>
    refine ⟨_, rfl, ?_⟩
    split
    · exact s.process_modelsOwn _ fun _ _ => rfl
    · rfl
  | identify tag payload => exact ⟨_, rfl, s.process_modelsOwn _ fun _ _ => rfl⟩
  | readStatus tag payload => exact ⟨_, rfl, s.process_modelsOwn _ fun _ _ => rfl⟩
  | readAxis tag payload => exact ⟨_, rfl, s.process_modelsOwn _ ownReadAxis_modelsOwn⟩
  | setDevice tag payload => exact ⟨_, rfl, s.process_modelsOwn _ ownSetDevice_modelsOwn⟩
  | configureAxis tag payload => exact ⟨_, rfl, s.process_modelsOwn _ ownConfigureAxis_modelsOwn⟩
  | setGains tag payload => exact ⟨_, rfl, s.process_modelsOwn _ ownSetGains_modelsOwn⟩
  | setReaction tag payload => exact ⟨_, rfl, s.process_modelsOwn _ ownSetReaction_modelsOwn⟩
  | setMark tag payload => exact ⟨_, rfl, s.process_modelsOwn _ ownSetMark_modelsOwn⟩
  | setTelemetry tag payload => exact ⟨_, rfl, s.process_modelsOwn _ ownSetTelemetry_modelsOwn⟩
  | arm tag payload => exact ⟨_, rfl, s.process_modelsOwn _ ownArm_modelsOwn⟩
  | disarm tag payload => exact ⟨_, rfl, s.process_modelsOwn _ ownDisarm_modelsOwn⟩
  | stop tag payload => exact ⟨_, rfl, s.process_modelsOwn _ ownStop_modelsOwn⟩
  | clearFaults tag payload => exact ⟨_, rfl, s.process_modelsOwn _ ownClearFaults_modelsOwn⟩
  | biasCapture tag payload => exact ⟨_, rfl, s.process_modelsOwn _ ownBiasCapture_modelsOwn⟩
  | driveTest tag payload => exact ⟨_, rfl, s.process_modelsOwn _ ownDriveTest_modelsOwn⟩
  | reset tag payload => exact ⟨_, rfl, s.process_modelsOwn _ fun _ _ => rfl⟩
  | queueSegment tag payload => exact ⟨_, rfl, s.process_modelsOwn _ ownQueueSegment_modelsOwn⟩
  | flush tag payload => exact ⟨_, rfl, s.process_modelsOwn _ ownFlush_modelsOwn⟩
  | transmitComplete => exact ⟨_, rfl, s.transmitEnd_modelsOwn⟩
  | headSampleFrame c =>
    exact ⟨_, rfl, (State.startTransmit_modelsOwn _).trans (s.takeSensorCharacter_modelsOwn .head c)⟩
  | vehicleSampleFrame c =>
    exact ⟨_, rfl, (State.startTransmit_modelsOwn _).trans (s.takeSensorCharacter_modelsOwn .vehicle c)⟩
  | sensorFrameGap port => exact ⟨_, rfl, s.setPort_modelsOwn port _⟩
  | headStale order => exact ⟨_, rfl, s.headGone_modelsOwn order⟩
  | vehicleLost => exact ⟨_, rfl, s.vehicleGone_modelsOwn⟩
  | settleTimerExpiry => exact ⟨_, rfl, s.settled_modelsOwn⟩
  | shockWindowEnd => exact ⟨_, rfl, rfl⟩
  | encoderTransition input a b =>
    exact ⟨_, rfl, (State.startTransmit_modelsOwn _).trans (s.phaseSample_modelsOwn input a b)⟩
  | illegalTransition input =>
    exact ⟨_, rfl, (State.startTransmit_modelsOwn _).trans (s.phaseSample_modelsOwn input _ _)⟩
  | illegalHoldExpiry input => exact ⟨_, rfl, s.holdOver_modelsOwn input⟩
  | indexEdge input => exact ⟨_, rfl, s.indexReload_modelsOwn input⟩
  | axisUpdate axis => exact ⟨_, rfl, (State.startTransmit_modelsOwn _).trans (s.axisUpdate_modelsOwn axis)⟩
  | faultRaise axis kind => exact ⟨_, rfl, s.faultRaise_modelsOwn axis kind⟩
  | armingTimerExpiry axis => exact ⟨_, rfl, s.armingOver_modelsOwn axis⟩
  | engageTimerExpiry axis => exact ⟨_, rfl, s.engageOver_modelsOwn axis⟩
  | driveTestEnd axis => exact ⟨_, rfl, s.testOver_modelsOwn axis⟩
  | streamLapse axis => exact ⟨_, rfl, s.streamOver_modelsOwn axis⟩
  | linkSilence order => exact ⟨_, rfl, s.linkSilent_modelsOwn order⟩
  | frameSyncEdge level => exact ⟨_, rfl, s.takeSyncLevel_modelsOwn level⟩
  | syncLost => exact ⟨_, rfl, s.loseSync_modelsOwn⟩
  | telemetry => exact ⟨_, rfl, s.telemetryExpiry_modelsOwn⟩
  | busSample reading order => exact ⟨_, rfl, s.sampleBus_modelsOwn reading order⟩
  | pwmBoundary axis => exact ⟨_, rfl, rfl⟩
  | currentSample axis reading => exact ⟨_, rfl, s.sampleCurrent_modelsOwn axis reading⟩
  | stopLineAssertion order => exact ⟨_, rfl, s.assertStop_modelsOwn order⟩
  | stopLineRelease => exact ⟨_, rfl, s.releaseStop_modelsOwn⟩
  | linkCharacter c => exact ⟨_, rfl, (State.startTransmit_modelsOwn _).trans (s.takeLinkCharacter_modelsOwn c)⟩
  | sensorCharacter port c =>
    exact ⟨_, rfl, (State.startTransmit_modelsOwn _).trans (s.takeSensorCharacter_modelsOwn port c)⟩
  | sensorFramingError port => exact ⟨_, rfl, s.setPort_modelsOwn port _⟩

/-- Settles O13, by what each command keeps. -/
theorem everyCommandKeepsTheQueue : Obligations.EveryCommandKeepsTheQueue := by
  unfold Obligations.EveryCommandKeepsTheQueue
  intro c s
  obtain ⟨t, ht, h⟩ := exec_modelsOwn c s
  exact ⟨t, ht, congrArg Prod.fst h, congrArg Prod.snd h⟩

end Sys2Proof.Machine

namespace Sys2Proof.Machine

/-! ### The Stabilisation Loop in an update

An update computes the loop once and then watches it (R69, R85 to R99).  The parts of an axis that the computation reads
stand through the stages before it, and those it leaves stand through the watches as long as the axis stays powered. -/

/-! #### One computation (R86 to R94) -/

theorem AxisState.driveLimit_nonneg {x : AxisState} {derate : Int} (ht : 0 ≤ x.cfg.torque) (hd : 0 ≤ derate) :
    0 ≤ x.driveLimit derate := by
  have hf : 0 ≤ x.faultDerate := by unfold AxisState.faultDerate; split <;> decide
  exact Int.fdiv_nonneg (mul_nonneg (mul_nonneg ht hd) hf) (by decide)

/-- A fault of level DERATE or above halves the limit (R91). -/
theorem AxisState.driveLimit_eq (x : AxisState) (derate : Int) :
    x.driveLimit derate =
      Int.fdiv (x.cfg.torque * derate * (if 1 ≤ (effectiveLevel x.faults).code then 500 else 1000)) 1000000 := by
  unfold AxisState.driveLimit AxisState.faultDerate Level.atLeast
  simp only [decide_eq_true_eq]
  rfl

/-- The integrator takes the increment, except where that would push the unlimited output farther beyond the limit
(R92). -/
theorem integratorDecision_fst (integ p inc bias limit : Int) :
    (integratorDecision integ p inc bias limit).1 =
      if (limit < p + truncDiv (clamp (integ + inc) (-256000) 256000) 256 + bias ∧ 0 < inc) ∨
          (p + truncDiv (clamp (integ + inc) (-256000) 256000) 256 + bias < -limit ∧ inc < 0)
      then integ else clamp (integ + inc) (-256000) 256000 := by
  unfold integratorDecision
  dsimp only
  split_ifs <;> rfl

/-- The unlimited output is that of the integrator decided on (R92). -/
theorem integratorDecision_snd (integ p inc bias limit : Int) :
    (integratorDecision integ p inc bias limit).2 =
      p + truncDiv (integratorDecision integ p inc bias limit).1 256 + bias := by
  unfold integratorDecision
  dsimp only
  split_ifs <;> rfl

theorem integratorDecision_bounds {integ : Int} (p inc bias limit : Int) (hlo : -256000 ≤ integ)
    (hhi : integ ≤ 256000) :
    -256000 ≤ (integratorDecision integ p inc bias limit).1 ∧
      (integratorDecision integ p inc bias limit).1 ≤ 256000 := by
  rw [integratorDecision_fst]
  split
  · exact ⟨hlo, hhi⟩
  · exact ⟨clamp_ge (by decide), clamp_le (by decide)⟩

/-- The shaped output lies within the limit (R93). -/
theorem shapeOutput_within_limit (u uPrev slew : Int) {limit : Int} (h : 0 ≤ limit) :
    -limit ≤ shapeOutput u uPrev limit slew ∧ shapeOutput u uPrev limit slew ≤ limit := by
  unfold shapeOutput
  dsimp only
  split
  · exact ⟨clamp_ge (by omega), clamp_le (by omega)⟩
  · next inside => omega

/-- A step toward a point of an interval, from a point of it, stays in it. -/
theorem clamp_step_within {x p k lo hi : Int} (hk : 0 ≤ k) (hx : lo ≤ x ∧ x ≤ hi) (hp : lo ≤ p ∧ p ≤ hi) :
    lo ≤ clamp x (p - k) (p + k) ∧ clamp x (p - k) (p + k) ≤ hi := by
  unfold clamp
  split_ifs <;> omega

/-- From an output within the limit the slew alone shapes the next one: the limit that follows it finds nothing to do
(R93). -/
theorem shapeOutput_within_slew (u : Int) {uPrev limit slew : Int} (hl : 0 ≤ limit) (hs : 0 ≤ slew)
    (hp : -limit ≤ uPrev ∧ uPrev ≤ limit) :
    uPrev - slew ≤ shapeOutput u uPrev limit slew ∧ shapeOutput u uPrev limit slew ≤ uPrev + slew := by
  have limited : -limit ≤ clamp u (-limit) limit ∧ clamp u (-limit) limit ≤ limit :=
    ⟨clamp_ge (by omega), clamp_le (by omega)⟩
  have slewed := clamp_step_within hs limited hp
  unfold shapeOutput
  dsimp only
  rw [if_neg (by omega)]
  exact ⟨clamp_ge (by omega), clamp_le (by omega)⟩

/-! #### Flags of the fault set -/

theorem hasPresent_setPresent_false (l : List FaultEntry) (k : FaultKind) :
    hasPresent (setPresent l k false) k = false := by
  simp only [hasPresent, setPresent, List.any_map, List.any_eq_false, Function.comp_apply]
  intro e _
  by_cases h : e.kind = k <;> simp [h]

theorem hasPresent_setPresent_ne (l : List FaultEntry) {j k : FaultKind} (b : Bool) (h : j ≠ k) :
    hasPresent (setPresent l k b) j = hasPresent l j := by
  rw [hasPresent, hasPresent, setPresent, List.any_map]
  congr 1
  funext e
  by_cases he : e.kind = k
  · simp [he, beq_false_of_ne h.symm]
  · simp [he]

theorem hasPresent_raiseInSet_same (l : List FaultEntry) (k : FaultKind) (stored : Level) (now : Time) :
    hasPresent (raiseInSet l k stored now) k = true := by
  unfold raiseInSet
  split
  · next held =>
    obtain ⟨e, he, hk⟩ := List.any_eq_true.mp held
    refine List.any_eq_true.mpr ⟨reraised e stored, List.mem_map.mpr ⟨e, he, if_pos hk⟩, ?_⟩
    simpa [reraised] using hk
  · simp [hasPresent, newEntry]

theorem hasPresent_raiseInSet_ne (l : List FaultEntry) {j k : FaultKind} (stored : Level) (now : Time) (h : j ≠ k) :
    hasPresent (raiseInSet l k stored now) j = hasPresent l j := by
  unfold raiseInSet
  split
  · rw [hasPresent, hasPresent, List.any_map]
    congr 1
    funext e
    by_cases he : e.kind = k
    · simp [he, reraised, h.symm]
    · simp [he]
  · simp [hasPresent, newEntry, h.symm]

/-! #### The stages before the loop (R69) -/

/-- The parts of an axis that the loop reads and that the stages 3 to 5 leave. -/
structure LoopBasis where
  cfg : AxisRecord
  loop : Loop
  meas : AxisMeasure
  faults : List FaultEntry
  powered : Bool

def AxisState.loopBasis (x : AxisState) : LoopBasis :=
  { cfg := x.cfg, loop := x.loop, meas := x.meas, faults := x.faults, powered := x.life.powered }

/-- What stands through the Sequencer stands for the loop. -/
theorem State.loopBasis_of_seqRest {s t : State} (h : t.seqRest = s.seqRest) (a : Axis) :
    (t.axis a).loopBasis = (s.axis a).loopBasis := by
  have e : (t.axis a).seqRest.loopBasis = (s.axis a).seqRest.loopBasis :=
    congrArg AxisState.loopBasis (State.axis_of_seqRest h a)
  exact e

/-- A change of the axis that keeps what the loop reads. -/
theorem State.modAxis_loopBasis (s : State) (a : Axis) {f : AxisState → AxisState}
    (h : ∀ x, (f x).loopBasis = x.loopBasis) : ((s.modAxis a f).axis a).loopBasis = (s.axis a).loopBasis := by
  rw [State.axis_modAxis_same, h]

section

variable (s : State) (a : Axis)

@[simp] theorem State.completeActive_loopBasis (o : SegOutcome) :
    ((s.completeActive a o).axis a).loopBasis = (s.axis a).loopBasis :=
  State.loopBasis_of_seqRest (s.completeActive_seqRest a o) a

@[simp] theorem State.moveStage_loopBasis (h : Bool) :
    ((s.moveStage a h).axis a).loopBasis = (s.axis a).loopBasis := by
  have event : ∀ (u : State) (l m : Option LimitSide), (u.limitStopEvent a l m).axis a = u.axis a := by
    intro u l m
    unfold State.limitStopEvent
    split
    · rfl
    · split <;> rfl
  unfold State.moveStage
  dsimp only
  rw [event]
  split
  · rw [State.completeActive_loopBasis, State.modAxis_loopBasis]
    exact fun _ => rfl
  · exact s.modAxis_loopBasis a fun _ => rfl

@[simp] theorem State.followStage_loopBasis (h : Bool) :
    ((s.followStage a h).axis a).loopBasis = (s.axis a).loopBasis := by
  have followed : ((s.modAxis a AxisState.markFollowed).axis a).loopBasis = (s.axis a).loopBasis :=
    s.modAxis_loopBasis a fun _ => rfl
  unfold State.followStage
  dsimp only
  split
  · rw [State.completeActive_loopBasis, State.modAxis_loopBasis, followed]
    exact fun _ => rfl
  · rw [State.moveStage_loopBasis, followed]

@[simp] theorem State.homedEvent_loopBasis : ((s.homedEvent a).axis a).loopBasis = (s.axis a).loopBasis := by
  unfold State.homedEvent
  dsimp only
  split
  · exact s.modAxis_loopBasis a fun _ => rfl
  · rw [State.axis_queueEvent]
    exact s.modAxis_loopBasis a fun _ => rfl

@[simp] theorem State.setpointStage_loopBasis (r h : Bool) :
    ((s.setpointStage a r h).axis a).loopBasis = (s.axis a).loopBasis := by
  have paused : ((s.modAxis a AxisState.pauseRebase).axis a).loopBasis = (s.axis a).loopBasis :=
    s.modAxis_loopBasis a fun _ => rfl
  have reloaded : ((s.modAxis a AxisState.reloadRebase).axis a).loopBasis = (s.axis a).loopBasis :=
    s.modAxis_loopBasis a fun _ => rfl
  unfold State.setpointStage
  dsimp only
  split_ifs <;> simp only [State.followStage_loopBasis, State.homedEvent_loopBasis, paused, reloaded]

/-- A phase DECEL ends in a powered state (R13). -/
@[simp] theorem State.decelTest_loopBasis : ((s.decelTest a).axis a).loopBasis = (s.axis a).loopBasis := by
  have enter {l m : Life} (old : (s.axis a).life = l) (h : m.powered = l.powered) :
      ((s.setLife a m).axis a).loopBasis = (s.axis a).loopBasis := by
    simp [State.setLife, AxisState.loopBasis, old, h]
  unfold State.decelTest State.decelEnd
  split
  · split
    · next old => rw [State.loopBasis_of_seqRest (State.judge_seqRest _ _), State.axis_queueEvent,
        enter (m := .tracking) old rfl]
    · next old => exact enter old rfl
    · next old => simp [State.enterEngage, State.setBrake, AxisState.loopBasis, old, Life.powered]
    · rfl
  · rfl

@[simp] theorem State.checkMark_loopBasis (p : Int) (i : Fin 4) :
    ((s.checkMark a p i).axis a).loopBasis = (s.axis a).loopBasis := by
  unfold State.checkMark
  split
  · rfl
  · split
    · rfl
    · rw [State.axis_queueReport]
      exact s.modAxis_loopBasis a fun _ => rfl

@[simp] theorem State.markStage_loopBasis (p : Int) (r : Bool) :
    ((s.markStage a p r).axis a).loopBasis = (s.axis a).loopBasis := by
  unfold State.markStage
  split
  · exact s.modAxis_loopBasis a fun _ => rfl
  · simp only [List.foldl_cons, List.foldl_nil, State.checkMark_loopBasis]

end

/-! #### The watches (R95 to R98) -/

/-- The parts of an axis that a raise leaves while the axis stays powered. -/
structure LoopView where
  cfg : AxisRecord
  meas : AxisMeasure
  gen : Generator
  loop : Loop

/-- The start angle of a HOME is blanked: it ends with its segment (R81). -/
def AxisState.loopView (x : AxisState) : LoopView :=
  { cfg := x.cfg, meas := x.meas, gen := { x.gen with homeStart := none }, loop := x.loop }

/-- A watch of a kind has left an axis with a view: the flags of the other kinds stand. -/
structure AxisState.WatchedTo (x y : AxisState) (k : FaultKind) (v : LoopView) : Prop where
  view : y.loopView = v
  others : ∀ j, j ≠ k → hasPresent y.faults j = hasPresent x.faults j

theorem State.loopView_of_seqRest {s t : State} (h : t.seqRest = s.seqRest) (a : Axis) :
    (t.axis a).loopView = (s.axis a).loopView := by
  have e : (t.axis a).seqRest.loopView = (s.axis a).seqRest.loopView :=
    congrArg AxisState.loopView (State.axis_of_seqRest h a)
  exact e

/-- An axis enters FAULTED, which is not a powered state (R16). -/
theorem State.enterFaulted_not_powered (s : State) (a : Axis) : ((s.enterFaulted a).axis a).life.powered = false := by
  simp [State.enterFaulted, State.setBrake, State.setLife, Life.powered]

section

variable {s : State} {a : Axis} {k : FaultKind}

theorem State.reactStop_view :
    ((s.reactStop a).axis a).loopView = (s.axis a).loopView ∧ ((s.reactStop a).axis a).faults = (s.axis a).faults := by
  have flushed := s.flushAll_seqRest a .stoppedByFault
  have stop : ∀ f : AxisState → AxisState, (∀ x, (f x).loopView = x.loopView ∧ (f x).faults = x.faults) →
      (((s.flushAll a .stoppedByFault).modAxis a f).axis a).loopView = (s.axis a).loopView ∧
        (((s.flushAll a .stoppedByFault).modAxis a f).axis a).faults = (s.axis a).faults := by
    intro f hf
    rw [State.axis_modAxis_same, (hf _).1, (hf _).2]
    exact ⟨State.loopView_of_seqRest flushed a, State.faults_of_seqRest flushed a⟩
  unfold State.reactStop
  split
  · exact stop _ fun _ => ⟨rfl, rfl⟩
  · exact stop _ fun _ => ⟨rfl, rfl⟩
  · simp [State.setLife, AxisState.loopView]
  · exact ⟨rfl, rfl⟩

/-- A reaction of level BRAKE or OPEN makes a powered axis FAULTED (R16, R120). -/
theorem State.react_not_powered {l : Level} (hl : l = .brake ∨ l = .open) (hs : (s.axis a).life.powered = true) :
    ((s.react a l).axis a).life.powered = false := by
  have faulted : ((s.react a l).axis a).life = ((s.enterFaulted a).axis a).life := by
    rcases hl with rfl | rfl
    · simp [State.react, State.reactBrake, hs, State.requestDrive, AxisState.modDrive]
    · simp [State.react, State.reactOpen, hs, State.placeDrive, AxisState.modDrive]
  rw [faulted, State.enterFaulted_not_powered]

/-- A reaction that leaves a powered axis powered is at most a STOP, which changes nothing that its loop computes with
(R16, R120). -/
theorem State.react_view {l : Level} (hs : (s.axis a).life.powered = true)
    (ht : ((s.react a l).axis a).life.powered = true) :
    ((s.react a l).axis a).loopView = (s.axis a).loopView ∧ ((s.react a l).axis a).faults = (s.axis a).faults :=
  match l with
  | .note => ⟨rfl, rfl⟩
  | .derate => ⟨rfl, rfl⟩
  | .stop => State.reactStop_view
  | .brake => by rw [State.react_not_powered (.inl rfl) hs] at ht; cases ht
  | .open => by rw [State.react_not_powered (.inr rfl) hs] at ht; cases ht

/-- A raise that leaves a powered axis powered enters its kind in the fault set, and changes nothing that its loop
computes with (R119). -/
theorem State.raise_watched (hk : k ≠ .overcurrent) (hs : (s.axis a).life.powered = true)
    (ht : ((s.raise a k).axis a).life.powered = true) :
    (s.axis a).WatchedTo ((s.raise a k).axis a) k (s.axis a).loopView ∧
      hasPresent ((s.raise a k).axis a).faults k = true := by
  have configured : (s.axis a).life.configured = true := by
    revert hs; cases (s.axis a).life <;> simp [Life.powered, Life.configured]
  have raised : (s.raise a k).axis a =
      ((s.raiseEntry a k).react a ((s.raiseEntry a k).entryLevel a k)).axis a := by
    simp [State.raise, configured, State.reportFault, State.settleOvercurrent, hk]
  have entered : ((s.raiseEntry a k).axis a).faults =
      raiseInSet (s.axis a).faults k (s.reactions.get k) s.time := by simp [State.raiseEntry]
  have before : ((s.raiseEntry a k).axis a).loopView = (s.axis a).loopView := by
    simp [State.raiseEntry, AxisState.loopView]
  have powered : ((s.raiseEntry a k).axis a).life.powered = true := by simpa [State.raiseEntry] using hs
  rw [raised] at ht ⊢
  obtain ⟨view, faults⟩ := State.react_view powered ht
  refine ⟨⟨view.trans before, fun j hj => ?_⟩, ?_⟩
  · rw [faults, entered, hasPresent_raiseInSet_ne _ _ _ hj]
  · rw [faults, entered, hasPresent_raiseInSet_same]

/-- A raise of a watch behind a change of its own: the view is the changed one. -/
theorem State.raise_watched_of_modAxis {f : AxisState → AxisState} (hk : k ≠ .overcurrent)
    (hf : (f (s.axis a)).life = (s.axis a).life)
    (others : ∀ j, j ≠ k → hasPresent (f (s.axis a)).faults j = hasPresent (s.axis a).faults j)
    (hs : (s.axis a).life.powered = true) (ht : (((s.modAxis a f).raise a k).axis a).life.powered = true) :
    (s.axis a).WatchedTo (((s.modAxis a f).raise a k).axis a) k (f (s.axis a)).loopView ∧
      hasPresent (((s.modAxis a f).raise a k).axis a).faults k = true := by
  have powered : ((s.modAxis a f).axis a).life.powered = true := by rw [State.axis_modAxis_same, hf, hs]
  obtain ⟨watched, present⟩ := State.raise_watched hk powered ht
  rw [State.axis_modAxis_same] at watched
  exact ⟨⟨watched.view, fun j hj => (watched.others j hj).trans (others j hj)⟩, present⟩

end

/-! #### Each watch -/

theorem lesser_eq_min (x y : Int) : lesser x y = min x y := by
  unfold lesser
  split <;> omega

theorem magnitude_eq_abs (x : Int) : magnitude x = |x| := by rw [magnitude_eq_natAbs, Int.abs_eq_natAbs]

/-- The timer of a watch counts to a value, or is set to 0, and the condition of its kind follows it (R95, R96). -/
structure TimerFollowed (k : FaultKind) (timer period full : Int) (counts : Bool) (timer' : Int)
    (faults : List FaultEntry) : Prop where
  value : timer' = watchTimer timer period full counts
  reached : timer < full → timer' = full → hasPresent faults k = true
  ended : timer' = 0 → 0 < full → hasPresent faults k = false

/-- A loop with what the three watches write of it. -/
def Loop.watched (l : Loop) (track sat : Int) (found : Overrun) : Loop :=
  { l with trackTimer := track, satTimer := sat, overrun := found }

/-- The flag of the kind is all that the timer asks of a fault set. -/
theorem TimerFollowed.of_hasPresent {k : FaultKind} {timer period full timer' : Int} {counts : Bool}
    {l m : List FaultEntry} (h : TimerFollowed k timer period full counts timer' l)
    (same : hasPresent m k = hasPresent l k) : TimerFollowed k timer period full counts timer' m :=
  ⟨h.value, same ▸ h.reached, same ▸ h.ended⟩

section

variable {s : State} {a : Axis}

/-- A watch with a timer: the timer's change and its condition, and a raise where it reaches its full value. -/
theorem State.timerWatch_followed {k : FaultKind} {f : AxisState → AxisState} {l : Loop} {timer period full : Int}
    {counts : Bool} {t : State} (hk : k ≠ .overcurrent)
    (hf : f (s.axis a) =
      { s.axis a with loop := l }.setCondition k (watchTimer timer period full counts != 0))
    (hs : (s.axis a).life.powered = true)
    (ht : t = if watchReaches timer (watchTimer timer period full counts) full then (s.modAxis a f).raise a k
      else s.modAxis a f)
    (powered : (t.axis a).life.powered = true) :
    (s.axis a).WatchedTo (t.axis a) k { (s.axis a).loopView with loop := l } ∧
      TimerFollowed k timer period full counts (watchTimer timer period full counts) (t.axis a).faults := by
  have others : ∀ j, j ≠ k → hasPresent (f (s.axis a)).faults j = hasPresent (s.axis a).faults j := by
    intro j hj
    rw [hf]
    exact hasPresent_setPresent_ne _ _ hj
  have view : (f (s.axis a)).loopView = { (s.axis a).loopView with loop := l } := by rw [hf]; rfl
  subst ht
  split at powered
  · next reaches =>
    rw [if_pos reaches]
    obtain ⟨watched, present⟩ := State.raise_watched_of_modAxis hk (by rw [hf]; rfl) others hs powered
    rw [view] at watched
    simp only [watchReaches, Bool.and_eq_true, decide_eq_true_eq, beq_iff_eq] at reaches
    exact ⟨watched, rfl, fun _ _ => present, fun zero pos => by omega⟩
  · next stays =>
    rw [if_neg stays, State.axis_modAxis_same]
    simp only [watchReaches, Bool.and_eq_true, decide_eq_true_eq, beq_iff_eq, not_and] at stays
    refine ⟨⟨view, others⟩, rfl, fun short full => absurd full (stays short), fun zero _ => ?_⟩
    rw [hf, zero]
    exact hasPresent_setPresent_false _ _

/-- A PAUSE holds exactly the axes in a powered state (R115). -/
theorem State.pausedAxis_of_powered (hs : (s.axis a).life.powered = true) : s.pausedAxis a = s.stopLine.pause := by
  rw [State.pausedAxis, hs, Bool.and_true]

/-- The tracking watch: a PAUSE and shock ride-through hold the timer and its condition, which otherwise follow the
error (R95, R99). -/
theorem State.trackingWatch_watched (hs : (s.axis a).life.powered = true)
    (ht : ((s.trackingWatch a).axis a).life.powered = true) :
    ∃ timer,
      (s.axis a).WatchedTo ((s.trackingWatch a).axis a) .tracking
          { (s.axis a).loopView with loop := { (s.axis a).loop with trackTimer := timer } } ∧
        ((s.stopLine.pause || s.riding (s.axis a).cfg) = true → timer = (s.axis a).loop.trackTimer) ∧
        ((s.stopLine.pause || s.riding (s.axis a).cfg) = false →
          TimerFollowed .tracking (s.axis a).loop.trackTimer (s.axis a).cfg.period ((s.axis a).cfg.trackTime * 1000)
            (decide ((s.axis a).cfg.trackLimit < magnitude (s.axis a).errorFull)) timer
            ((s.trackingWatch a).axis a).faults) := by
  have paused := State.pausedAxis_of_powered hs
  by_cases held : (s.stopLine.pause || s.riding (s.axis a).cfg) = true
  · have same : s.trackingWatch a = s := if_pos (by rw [paused, held])
    rw [same]
    exact ⟨_, ⟨rfl, fun _ _ => rfl⟩, fun _ => rfl, fun h => absurd held (by rw [h]; decide)⟩
  · have watched := State.timerWatch_followed (t := s.trackingWatch a) (by decide) rfl hs
      (if_neg (by rw [paused]; exact held)) ht
    exact ⟨_, watched.1, fun h => absurd h held, fun _ => watched.2⟩

/-- The saturation watch: a PAUSE holds the timer and its condition, which otherwise follow the output (R96, R99). -/
theorem State.saturationWatch_watched (hs : (s.axis a).life.powered = true)
    (ht : ((s.saturationWatch a).axis a).life.powered = true) :
    ∃ timer,
      (s.axis a).WatchedTo ((s.saturationWatch a).axis a) .saturation
          { (s.axis a).loopView with loop := { (s.axis a).loop with satTimer := timer } } ∧
        (s.stopLine.pause = true → timer = (s.axis a).loop.satTimer) ∧
        (s.stopLine.pause = false →
          TimerFollowed .saturation (s.axis a).loop.satTimer (s.axis a).cfg.period ((s.axis a).cfg.satTime * 1000)
            (s.axis a).loop.saturated timer ((s.saturationWatch a).axis a).faults) := by
  have paused := State.pausedAxis_of_powered hs
  by_cases held : s.stopLine.pause = true
  · have same : s.saturationWatch a = s := if_pos (by rw [paused, held])
    rw [same]
    exact ⟨_, ⟨rfl, fun _ _ => rfl⟩, fun _ => rfl, fun h => absurd held (by rw [h]; decide)⟩
  · have watched := State.timerWatch_followed (t := s.saturationWatch a) (by decide) rfl hs
      (if_neg (by rw [paused]; exact held)) ht
    exact ⟨_, watched.1, fun h => absurd h held, fun _ => watched.2⟩

/-- The overrun check records what it finds, and its condition is present exactly beyond the widened limits (R97). -/
theorem State.overrunWatch_found {joint : Option Int} {homed home : Bool} (hs : (s.axis a).life.powered = true)
    (ht : ((s.overrunWatch a joint homed home).axis a).life.powered = true) :
    (s.axis a).WatchedTo ((s.overrunWatch a joint homed home).axis a) .limitOverrun
        { (s.axis a).loopView with
          loop := { (s.axis a).loop with overrun := overrunFinding (s.axis a).cfg joint homed home } } ∧
      hasPresent ((s.overrunWatch a joint homed home).axis a).faults .limitOverrun =
        decide (overrunFinding (s.axis a).cfg joint homed home = .beyond) := by
  unfold State.overrunWatch at ht ⊢
  dsimp only at ht ⊢
  by_cases beyond : overrunFinding (s.axis a).cfg joint homed home = .beyond
  · rw [if_pos beyond] at ht ⊢
    rw [decide_eq_true beyond]
    by_cases present : hasPresent (s.axis a).faults .limitOverrun = true
    · rw [if_pos present, State.axis_modAxis_same]
      exact ⟨⟨rfl, fun _ _ => rfl⟩, present⟩
    · rw [if_neg present] at ht ⊢
      exact State.raise_watched_of_modAxis (by decide) rfl (fun _ _ => rfl) hs ht
  · rw [if_neg beyond, decide_eq_false beyond, State.axis_modAxis_same, State.axis_modAxis_same]
    exact ⟨⟨rfl, fun j hj => hasPresent_setPresent_ne _ _ hj⟩, hasPresent_setPresent_false _ _⟩

/-- The axis is powered after a watch that waits for it to be so: the watch was made (R98). -/
theorem State.ifPowered_of_powered {f : State → State} (h : ((s.ifPowered a f).axis a).life.powered = true) :
    (s.axis a).life.powered = true ∧ s.ifPowered a f = f s := by
  unfold State.ifPowered at h ⊢
  split at h
  · next powered => exact ⟨powered, if_pos powered⟩
  · next off => exact absurd h off

/-- A powered axis after the watches: all three were made, each on a powered axis (R98). -/
theorem State.watchStage_of_powered {joint : Option Int} {homed home : Bool}
    (h : ((s.watchStage a joint homed home).axis a).life.powered = true) :
    ((s.trackingWatch a).axis a).life.powered = true ∧
      (((s.trackingWatch a).saturationWatch a).axis a).life.powered = true ∧
      s.watchStage a joint homed home =
        ((s.trackingWatch a).saturationWatch a).overrunWatch a joint homed home := by
  obtain ⟨saturation, overrun⟩ := State.ifPowered_of_powered h
  obtain ⟨tracking, same⟩ := State.ifPowered_of_powered saturation
  rw [same] at saturation
  exact ⟨tracking, saturation, by rw [State.watchStage, overrun, same]⟩

/-- The three watches of an axis that stays powered: the two timers with their conditions, and what the overrun check
finds (R95 to R98). -/
theorem State.watchStage_watched {joint : Option Int} {homed home : Bool} {t : State}
    (hs : (s.axis a).life.powered = true) (same : s.watchStage a joint homed home = t)
    (ht : (t.axis a).life.powered = true) :
    ∃ track sat,
      (t.axis a).loopView =
          { (s.axis a).loopView with
            loop := (s.axis a).loop.watched track sat (overrunFinding (s.axis a).cfg joint homed home) } ∧
        ((s.stopLine.pause || s.riding (s.axis a).cfg) = true → track = (s.axis a).loop.trackTimer) ∧
        ((s.stopLine.pause || s.riding (s.axis a).cfg) = false →
          TimerFollowed .tracking (s.axis a).loop.trackTimer (s.axis a).cfg.period ((s.axis a).cfg.trackTime * 1000)
            (decide ((s.axis a).cfg.trackLimit < magnitude (s.axis a).errorFull)) track (t.axis a).faults) ∧
        (s.stopLine.pause = true → sat = (s.axis a).loop.satTimer) ∧
        (s.stopLine.pause = false →
          TimerFollowed .saturation (s.axis a).loop.satTimer (s.axis a).cfg.period ((s.axis a).cfg.satTime * 1000)
            (s.axis a).loop.saturated sat (t.axis a).faults) ∧
        hasPresent (t.axis a).faults .limitOverrun =
          decide (overrunFinding (s.axis a).cfg joint homed home = .beyond) := by
  subst same
  obtain ⟨ht1, ht2, same⟩ := State.watchStage_of_powered ht
  rw [same] at ht ⊢
  obtain ⟨-, -, -, pause, -⟩ := State.blocks_of_deviceRest (s.trackingWatch_deviceRest a)
  obtain ⟨track, tracked, trackHeld, trackFollowed⟩ := State.trackingWatch_watched hs ht1
  obtain ⟨sat, sated, satHeld, satFollowed⟩ := State.saturationWatch_watched ht1 ht2
  obtain ⟨found, condition⟩ := State.overrunWatch_found (joint := joint) (homed := homed) (home := home) ht2 ht
  have loop1 := congrArg LoopView.loop tracked.view
  have loop2 := congrArg LoopView.loop sated.view
  have cfg1 := congrArg LoopView.cfg tracked.view
  have cfg2 := congrArg LoopView.cfg sated.view
  simp only [AxisState.loopView] at loop1 loop2 cfg1 cfg2
  rw [loop1, pause] at satHeld
  rw [loop1, cfg1, pause] at satFollowed
  rw [cfg2, cfg1] at condition
  refine ⟨track, sat, ?_, trackHeld, fun h => ?_, satHeld, fun h => ?_, condition⟩
  · rw [found.view, loop2, cfg2, cfg1, sated.view, loop1, tracked.view]
    rfl
  · refine (trackFollowed h).of_hasPresent ?_
    rw [found.others _ (by decide), sated.others _ (by decide)]
  · exact (satFollowed h).of_hasPresent (found.others _ (by decide))

end

/-! #### The HOME segment of an update (R97) -/

/-- No HOME segment is active, and no segment waits that an update could make active. -/
def AxisState.NoHome (x : AxisState) : Prop := x.waiting = [] ∧ ∀ c, x.active = some c → c.seg.kind ≠ .home

section

variable {s : State} {a : Axis}

/-- Where nothing waits, judging finds nothing to do (R43). -/
theorem State.judge_of_none_waiting (h : (s.axis a).waiting = []) : s.judge [a] = s := by
  have one : s.judgeOne a = (s, []) := by
    unfold State.judgeOne
    rw [h]
    split <;> rfl
  have rest : ∀ n, judgeLoop n [] s = s := by intro n; cases n <;> rfl
  have fuel : [a].length + s.waitingCount = s.waitingCount + 1 := Nat.add_comm _ _
  rw [State.judge, fuel, judgeLoop, one]
  exact rest _

theorem State.leaveActive_waiting (g : Segment) (o : SegOutcome) :
    ((s.leaveActive a g o).axis a).waiting = (s.axis a).waiting := by
  have capture : ∀ b, (s.setCapture a b).axis a = s.axis a := by
    intro b
    unfold State.setCapture
    split <;> rfl
  unfold State.leaveActive
  split
  · simp
  · split
    · rfl
    · rfl
    · rw [State.axis_modAxis_same, capture]
  · rfl

theorem State.endActiveIf_noHome (h : (s.axis a).NoHome) (test : ActiveSegment → Bool) (o : SegOutcome) :
    ((s.endActiveIf a test o).axis a).NoHome := by
  have outcome : ∀ g m c, (s.giveOutcome a g o m c).axis a = s.axis a := by
    intro g m c
    unfold State.giveOutcome
    split <;> rfl
  have ended : ((s.endActive a o).axis a).NoHome := by
    unfold State.endActive
    split
    · exact h
    · rw [State.axis_modAxis_same]
      refine ⟨?_, fun _ none => by cases none⟩
      exact (State.leaveActive_waiting _ o).trans ((congrArg AxisState.waiting (outcome _ _ _)).trans h.1)
  unfold State.endActiveIf
  split
  · exact h
  · split
    · rwa [State.completeActive, State.judge_of_none_waiting ended.1]
    · exact h

/-- The Sequencer step finds no HOME to follow where none is active and nothing waits (R48). -/
theorem State.sequencerStep_noHome (h : (s.axis a).NoHome) (r : Bool) : ((s.sequencerStep a r).axis a).NoHome := by
  have elapsed : ((s.modAxis a fun x => x.addElapsed (s.pausedAxis a)).axis a).NoHome := by
    rw [State.axis_modAxis_same]
    unfold AxisState.addElapsed
    split
    · exact h
    · next c active =>
      split
      · exact ⟨h.1, fun d followed => by cases followed; exact h.2 c active⟩
      · exact h
  unfold State.sequencerStep
  split
  · have stepped := State.endActiveIf_noHome (State.endActiveIf_noHome (State.endActiveIf_noHome elapsed
      (fun c => c.seg.kind.lasts && c.reachedEnd) .completed)
      (fun c => !c.seg.kind.lasts && c.reachedEnd) .timeout) (fun c => r && c.seg.kind == .home) .completed
    rw [State.activateStep, if_neg]
    · exact stepped
    · unfold AxisState.immediateReady State.homeCapture State.timeLimitEnd State.durationEnd
      rw [stepped.1]
      simp
  · exact h

/-- The setpoint stage follows no HOME where none is active. -/
theorem AxisState.NoHome.stageHome {x : AxisState} (h : x.NoHome) : x.stageHome = false := by
  unfold AxisState.stageHome AxisState.stageSegment
  split
  · rfl
  · next g stage =>
    split at stage
    · obtain ⟨c, active, rfl⟩ := Option.map_eq_some_iff.mp stage
      exact beq_false_of_ne (h.2 c active)
    · cases stage

end

/-! #### The state an update computes its loop in (R69) -/

/-- What stage 1 does to the gain sets: a staged record of mode NOW is copied into its target (R7). -/
theorem AxisState.beginUpdate_gains (x : AxisState) (now : Time) :
    (x.beginUpdate now).hold =
        (match x.staged with
        | none => x.hold
        | some r => if r.mode = .now ∧ r.target ≠ .move then r.gains else x.hold) ∧
      (x.beginUpdate now).move =
        (match x.staged with
        | none => x.move
        | some r => if r.mode = .now ∧ r.target ≠ .hold then r.gains else x.move) := by
  obtain staged | ⟨⟨target, gains, mode⟩, staged⟩ := Option.eq_none_or_eq_some x.staged
  · simp [AxisState.beginUpdate, AxisState.applyStagedOf, staged]
  · cases mode <;> cases target <;>
      simp [AxisState.beginUpdate, AxisState.applyStagedOf, AxisState.applyStaged, staged]

/-- A staged record that is applied changes the gain sets and itself alone (R7). -/
theorem AxisState.applyStaged_kept (x : AxisState) :
    x.applyStaged.loopBasis = x.loopBasis ∧ x.applyStaged.life = x.life ∧ x.applyStaged.active = x.active ∧
      x.applyStaged.waiting = x.waiting := by
  unfold AxisState.applyStaged
  split
  · exact ⟨rfl, rfl, rfl, rfl⟩
  · split <;> exact ⟨rfl, rfl, rfl, rfl⟩

/-- Stage 1 changes the gain sets, the staged record and the update timer alone (R7, R68). -/
theorem AxisState.beginUpdate_kept (x : AxisState) (now : Time) :
    (x.beginUpdate now).loopBasis = x.loopBasis ∧ (x.beginUpdate now).life = x.life ∧
      (x.beginUpdate now).active = x.active ∧ (x.beginUpdate now).waiting = x.waiting := by
  unfold AxisState.beginUpdate AxisState.applyStagedOf
  split
  · exact ⟨rfl, rfl, rfl, rfl⟩
  · split
    · exact AxisState.applyStaged_kept _
    · exact ⟨rfl, rfl, rfl, rfl⟩

/-- Stage 2 but for its stale check writes the measured values alone (R31, R32). -/
theorem State.measure_axis (s : State) (a : Axis) : ∃ m, (s.measure a).axis a = { s.axis a with meas := m } := by
  unfold State.measure
  dsimp only
  split <;> exact ⟨_, State.axis_modAxis_same _ _ _⟩

section

variable (s : State) (a : Axis)

/-- The state of an update after its stage 2. -/
def State.measured : State := (s.modAxis a fun x => x.beginUpdate s.time).measure a

/-- The state of an update after its stage 3, where stage 2 raises nothing. -/
def State.sequenced : State := (s.measured a).sequencerStep a (s.axis a).meas.reloadPending

/-- The state of an update after its stage 5, where stage 2 raises nothing. -/
def State.marked : State :=
  (((s.sequenced a).setpointStage a (s.axis a).meas.reloadPending (s.homedInput a)).decelTest a).markStage a
    (s.axis a).meas.theta (s.axis a).meas.reloadPending

theorem State.measured_axis : ∃ m, (s.measured a).axis a = { (s.axis a).beginUpdate s.time with meas := m } := by
  have h := (s.modAxis a fun x => x.beginUpdate s.time).measure_axis a
  rwa [State.axis_modAxis_same] at h

theorem State.measured_deviceRest : (s.measured a).deviceRest = s.deviceRest := by simp [State.measured]

theorem State.marked_deviceRest : (s.marked a).deviceRest = s.deviceRest := by
  simp [State.marked, State.sequenced, State.measured]

/-- Stages 1 to 5 leave of what the loop reads all but the measured values. -/
theorem State.marked_loopBasis : ∃ m, ((s.marked a).axis a).loopBasis = { (s.axis a).loopBasis with meas := m } := by
  obtain ⟨m, measured⟩ := s.measured_axis a
  have begun := ((s.axis a).beginUpdate_kept s.time).1
  refine ⟨m, ?_⟩
  rw [State.marked, State.markStage_loopBasis, State.decelTest_loopBasis, State.setpointStage_loopBasis,
    State.sequenced, State.loopBasis_of_seqRest (State.sequencerStep_seqRest _ _ _), measured, ← begun]
  rfl

theorem State.sequenced_stageHome (h : (s.axis a).NoHome) : ((s.sequenced a).axis a).stageHome = false := by
  obtain ⟨m, measured⟩ := s.measured_axis a
  obtain ⟨-, -, active, waiting⟩ := (s.axis a).beginUpdate_kept s.time
  have before : ((s.measured a).axis a).NoHome := by
    rw [measured]
    exact ⟨waiting.trans h.1, fun c hc => h.2 c (active.symm.trans hc)⟩
  exact (State.sequencerStep_noHome before _).stageHome

variable {s a}

theorem State.measured_staleCheck (h : s.StallQuiet a) : (s.measured a).staleCheck a = s.measured a := by
  obtain ⟨m, measured⟩ := s.measured_axis a
  have begun := ((s.axis a).beginUpdate_kept s.time).1
  have cfg : ((s.measured a).axis a).cfg = (s.axis a).cfg := by rw [measured]; exact congrArg LoopBasis.cfg begun
  have faults : ((s.measured a).axis a).faults = (s.axis a).faults := by
    rw [measured]; exact congrArg LoopBasis.faults begun
  obtain ⟨-, -, -, -, -, -, head, -⟩ := State.blocks_of_deviceRest (s.measured_deviceRest a)
  rw [State.staleCheck, cfg, faults, head, if_neg]
  simp only [Bool.and_eq_true, beq_iff_eq, Bool.not_eq_true', not_and, Bool.not_eq_false]
  exact fun ⟨kind, stale⟩ => h kind stale

/-- An update of a powered axis whose stale check raises nothing: the loop and the watches, on the state after stage 5,
with what stages 1 and 2 read of the input and the gain sets (R69). -/
theorem State.axisUpdate_of_quiet (hp : (s.axis a).life.powered = true) (hq : s.StallQuiet a) :
    s.axisUpdate a =
      (((s.marked a).loopStage a ((s.axis a).beginUpdate s.time).hold
            ((s.axis a).beginUpdate s.time).move).modAxis a AxisState.handOff).watchStage a (s.jointAngleOf a)
        (s.homedInput a) ((s.sequenced a).axis a).stageHome := by
  obtain ⟨m, measured⟩ := s.measured_axis a
  obtain ⟨basis, life, -⟩ := (s.axis a).beginUpdate_kept s.time
  have cfg : ((s.axis a).beginUpdate s.time).cfg = (s.axis a).cfg := congrArg LoopBasis.cfg basis
  have input : ((s.axis a).beginUpdate s.time).input = (s.axis a).input := by
    rw [AxisState.input, AxisState.input, life, cfg]
  have homed : (s.modAxis a fun x => x.beginUpdate s.time).homedInput a = s.homedInput a := by
    rw [State.homedInput, State.homedInput, State.axis_modAxis_same, input]
    rfl
  have joint : (s.modAxis a fun x => x.beginUpdate s.time).jointAngleOf a = s.jointAngleOf a := by
    rw [State.jointAngleOf, State.jointAngleOf, State.axis_modAxis_same, input, cfg]
    rfl
  have powered : ((s.measured a).axis a).life.powered = true := by rw [measured]; exact life ▸ hp
  unfold State.axisUpdate
  rw [if_pos hp]
  dsimp only
  rw [← State.measured, State.measured_staleCheck hq, if_pos powered, homed, joint, State.axis_modAxis_same]
  rfl

end

/-! #### The loop of an update (R85 to R99) -/

/-- The axis as its loop reads it in an update: the record, loop and faults from before the update, the gain sets as
stage 1 leaves them, and the setpoint and measured values that the update leaves (R69, R85). -/
def State.loopAxis (s : State) (a : Axis) (y : AxisState) : AxisState :=
  { s.axis a with
    hold := ((s.axis a).beginUpdate s.time).hold
    move := ((s.axis a).beginUpdate s.time).move
    gen := y.gen
    meas := y.meas }

/-- The loop of an axis with the vehicle rate of an update in its delay line (R88). -/
def State.written (s : State) (a : Axis) : Loop := (s.axis a).loop.write (s.lineWrite (s.axis a).cfg)

/-- The unpaused computation of an update (R86 to R94). -/
def State.computed (s : State) (a : Axis) (y : AxisState) : Loop :=
  loopCompute (s.loopAxis a y) (s.written a) (s.feedforward (s.axis a).cfg (s.written a)) s.bus.derate
    (s.riding (s.axis a).cfg)

/-- The loop that stage 6 of an update leaves (R86 to R94, R99). -/
def State.stageLoop (s : State) (a : Axis) (y : AxisState) : Loop :=
  if s.stopLine.pause then loopPaused (s.written a) else s.computed a y

/-- What the overrun check of an update finds (R97). -/
def State.finding (s : State) (a : Axis) : Overrun :=
  overrunFinding (s.axis a).cfg (s.jointAngleOf a) (s.homedInput a) ((s.sequenced a).axis a).stageHome

/-- All that a computation reads of an axis. -/
theorem loopCompute_congr {x y : AxisState} (hold : x.hold = y.hold) (move : x.move = y.move)
    (faults : x.faults = y.faults) (view : { x.loopView with loop := y.loop } = y.loopView) :
    loopCompute x = loopCompute y := by
  have cfg : x.cfg = y.cfg := congrArg LoopView.cfg view
  have meas : x.meas = y.meas := congrArg LoopView.meas view
  have theta : x.gen.theta = y.gen.theta := congrArg (fun v => v.gen.theta) view
  have omega : x.gen.omega = y.gen.omega := congrArg (fun v => v.gen.omega) view
  have moving : x.gen.moving = y.gen.moving := congrArg (fun v => v.gen.moving) view
  unfold loopCompute AxisState.rateError AxisState.errorFull AxisState.proportional AxisState.increment
    AxisState.driveLimit AxisState.faultDerate AxisState.effective AxisState.gainsInUse
  rw [hold, move, faults, cfg, meas, theta, omega, moving]

/-- Stages 6 and 7 write the loop and the handed demand (R94, R99). -/
theorem State.loopStage_axis (s : State) (a : Axis) (hold move : Gains) :
    ((s.loopStage a hold move).modAxis a AxisState.handOff).axis a =
      { s.axis a with
        loop :=
          if s.pausedAxis a then loopPaused (s.written a)
          else
            loopCompute { s.axis a with hold := hold, move := move } (s.written a)
              (s.feedforward (s.axis a).cfg (s.written a)) s.bus.derate (s.riding (s.axis a).cfg) }.handOff := by
  rw [State.axis_modAxis_same, State.loopStage, State.axis_modAxis_same]
  rfl

/-- Every other field of the loop stands through stage 6 (R99). -/
theorem State.stageLoop_kept (s : State) (a : Axis) (y : AxisState) :
    (s.stageLoop a y).line = (s.written a).line ∧ (s.stageLoop a y).head = (s.written a).head ∧
      (s.stageLoop a y).trackTimer = (s.axis a).loop.trackTimer ∧
      (s.stageLoop a y).satTimer = (s.axis a).loop.satTimer := by
  unfold State.stageLoop
  split <;> exact ⟨rfl, rfl, rfl, rfl⟩

/-- The Measurement Unit's records are all that the feedforward and the ride-through read of the device (R88, R95). -/
theorem State.vehicle_reads {s t : State} (vehicle : t.vehicle = s.vehicle) (shock : t.shock = s.shock) :
    t.lineWrite = s.lineWrite ∧ t.feedforward = s.feedforward ∧ t.riding = s.riding := by
  refine ⟨funext fun cfg => ?_, funext fun cfg => funext fun l => ?_, funext fun cfg => ?_⟩
  · rw [State.lineWrite, State.lineWrite, State.noVehicle, State.noVehicle, vehicle]
  · rw [State.feedforward, State.feedforward, State.noVehicle, State.noVehicle, vehicle]
  · rw [State.riding, State.riding, shock]

/-- Stages 6 and 7 of an update leave the axis of stage 5 with its loop computed, from the setpoint and the measured
values that an axis `y` shares with it. -/
theorem State.marked_loopStage {s : State} {a : Axis} {y : AxisState} (hp : (s.axis a).life.powered = true)
    (meas : y.meas = ((s.marked a).axis a).meas)
    (gen : { y.gen with homeStart := none } = { ((s.marked a).axis a).gen with homeStart := none }) :
    (((s.marked a).loopStage a ((s.axis a).beginUpdate s.time).hold
            ((s.axis a).beginUpdate s.time).move).modAxis a AxisState.handOff).axis a =
      { (s.marked a).axis a with loop := s.stageLoop a y }.handOff := by
  obtain ⟨m, basis⟩ := s.marked_loopBasis a
  have cfg : ((s.marked a).axis a).cfg = (s.axis a).cfg := congrArg LoopBasis.cfg basis
  have loop : ((s.marked a).axis a).loop = (s.axis a).loop := congrArg LoopBasis.loop basis
  have faults : ((s.marked a).axis a).faults = (s.axis a).faults := congrArg LoopBasis.faults basis
  have powered : ((s.marked a).axis a).life.powered = true := (congrArg LoopBasis.powered basis).trans hp
  obtain ⟨-, -, bus, stop, -, -, -, vehicle, -, shock, -⟩ := State.blocks_of_deviceRest (s.marked_deviceRest a)
  obtain ⟨lineWrite, feedforward, riding⟩ := State.vehicle_reads vehicle shock
  have written : (s.marked a).written a = s.written a := by rw [State.written, State.written, loop, cfg, lineWrite]
  have compute :
      loopCompute { (s.marked a).axis a with
          hold := ((s.axis a).beginUpdate s.time).hold, move := ((s.axis a).beginUpdate s.time).move } =
        loopCompute (s.loopAxis a y) := by
    refine loopCompute_congr rfl rfl faults ?_
    simp only [AxisState.loopView, State.loopAxis, cfg, meas, gen]
  rw [State.loopStage_axis, State.pausedAxis_of_powered powered, written, feedforward, riding, bus, stop, cfg, compute]
  rfl

/-- What an update leaves of the loop and of the conditions of its watches, on an axis whose stale check raises nothing
and that is powered when the update ends (R85 to R99). -/
theorem State.axisUpdate_loop {s : State} {a : Axis} {y : AxisState} (hp : (s.axis a).life.powered = true)
    (hq : s.StallQuiet a) (hy : (s.axisUpdate a).axis a = y) (powered : y.life.powered = true) :
    ∃ track sat,
      y.loop = (s.stageLoop a y).watched track sat (s.finding a) ∧
        ((s.stopLine.pause || s.riding (s.axis a).cfg) = true → track = (s.axis a).loop.trackTimer) ∧
        ((s.stopLine.pause || s.riding (s.axis a).cfg) = false →
          TimerFollowed .tracking (s.axis a).loop.trackTimer (s.axis a).cfg.period ((s.axis a).cfg.trackTime * 1000)
            (decide ((s.axis a).cfg.trackLimit < magnitude y.errorFull)) track y.faults) ∧
        (s.stopLine.pause = true → sat = (s.axis a).loop.satTimer) ∧
        (s.stopLine.pause = false →
          TimerFollowed .saturation (s.axis a).loop.satTimer (s.axis a).cfg.period ((s.axis a).cfg.satTime * 1000)
            (s.computed a y).saturated sat y.faults) ∧
        hasPresent y.faults .limitOverrun = decide (s.finding a = .beyond) := by
  obtain ⟨m, basis⟩ := s.marked_loopBasis a
  have before : ((s.marked a).axis a).life.powered = true := (congrArg LoopBasis.powered basis).trans hp
  obtain ⟨-, -, -, stop, -, -, -, vehicle, -, shock, -⟩ := State.blocks_of_deviceRest (s.marked_deviceRest a)
  have same := State.axisUpdate_of_quiet hp hq
  generalize stages : ((s.marked a).loopStage a ((s.axis a).beginUpdate s.time).hold
    ((s.axis a).beginUpdate s.time).move).modAxis a AxisState.handOff = u at same
  have pause : u.stopLine = s.stopLine := by subst stages; exact stop
  have riding : u.riding = s.riding := by subst stages; exact (State.vehicle_reads vehicle shock).2.2
  have stage7 := (s.marked a).loopStage_axis a ((s.axis a).beginUpdate s.time).hold
    ((s.axis a).beginUpdate s.time).move
  rw [stages] at stage7
  have on : (u.axis a).life.powered = true := by rw [stage7]; exact before
  have meas : (u.axis a).meas = ((s.marked a).axis a).meas := by rw [stage7]; rfl
  have gen : (u.axis a).gen = ((s.marked a).axis a).gen := by rw [stage7]; rfl
  have cfg : (u.axis a).cfg = (s.axis a).cfg := by rw [stage7]; exact congrArg LoopBasis.cfg basis
  obtain ⟨track, sat, view, trackHeld, trackFollowed, satHeld, satFollowed, condition⟩ :=
    State.watchStage_watched on same.symm (by rw [hy]; exact powered)
  rw [hy] at view trackFollowed satFollowed condition
  have yMeas : y.meas = (u.axis a).meas := congrArg LoopView.meas view
  have yGen : { y.gen with homeStart := none } = { (u.axis a).gen with homeStart := none } :=
    congrArg LoopView.gen view
  have error : (u.axis a).errorFull = y.errorFull := by
    rw [AxisState.errorFull, AxisState.errorFull, yMeas, congrArg Generator.theta yGen]
  have loop : (u.axis a).loop = s.stageLoop a y := by
    rw [← stages, State.marked_loopStage hp (yMeas.trans meas) (gen ▸ yGen)]
    rfl
  obtain ⟨-, -, track0, sat0⟩ := s.stageLoop_kept a y
  rw [pause, riding, cfg, loop, track0] at trackHeld
  rw [pause, riding, cfg, loop, track0, error] at trackFollowed
  rw [pause, loop, sat0] at satHeld
  rw [pause, cfg, loop, sat0] at satFollowed
  rw [cfg] at condition
  refine ⟨track, sat, ?_, trackHeld, trackFollowed, satHeld, fun h => ?_, condition⟩
  · rw [← loop, State.finding, ← cfg]
    exact congrArg LoopView.loop view
  · have computed : s.stageLoop a y = s.computed a y := if_neg (by rw [h]; decide)
    rw [← computed]
    exact satFollowed h

/-! #### What the statement reads of an update -/

section

variable {s : State} {a : Axis}

theorem State.noVehicle_iff (cfg : AxisRecord) :
    s.noVehicle cfg = true ↔ cfg.vehChannel = 0 ∨ s.vehicle.stale = true := by simp [State.noVehicle]

theorem State.riding_iff (cfg : AxisRecord) :
    s.riding cfg = true ↔ cfg.shockRide ≠ 0 ∧ s.shock.active = true := by simp [State.riding]

/-- A powered axis names the encoder input of its record. -/
theorem AxisState.input_of_powered {x : AxisState} (hp : x.life.powered = true) {i : Input}
    (hi : x.cfg.encoder.toNat = i.val) : x.input = some i := by
  have configured : x.life.configured = true := by
    revert hp; cases x.life <;> simp [Life.powered, Life.configured]
  have range : x.cfg.encoder.toNat < 4 := hi ▸ i.isLt
  rw [AxisState.input, if_pos configured, dif_pos range]
  exact congrArg some (Fin.ext hi)

/-- An input that an axis names is the one of its record. -/
theorem AxisState.encoder_of_input {x : AxisState} {i : Input} (h : x.input = some i) :
    x.cfg.encoder.toNat = i.val := by
  unfold AxisState.input at h
  split at h
  · split at h
    · rw [← Option.some.inj h]
    · cases h
  · cases h

/-- On a homed input with no HOME followed the overrun check compares the joint angle with the widened limits (R97). -/
theorem State.finding_of_homed (hp : (s.axis a).life.powered = true) (hn : (s.axis a).NoHome) {i : Input}
    (hi : (s.axis a).cfg.encoder.toNat = i.val) (homed : (s.encoders.get i).homed = true) :
    s.finding a =
      if jointAngle (s.axis a).cfg (s.encoders.get i) < (s.axis a).cfg.limMin - (s.axis a).cfg.margin ∨
          (s.axis a).cfg.limMax + (s.axis a).cfg.margin < jointAngle (s.axis a).cfg (s.encoders.get i)
      then .beyond else .inside := by
  rw [State.finding, State.sequenced_stageHome s a hn, State.jointAngleOf, State.homedInput,
    AxisState.input_of_powered hp hi]
  simp only [homed]
  rfl

/-- With no homed input the overrun check is not made (R97). -/
theorem State.finding_of_not_homed
    (h : ∀ i : Input, (s.axis a).cfg.encoder.toNat = i.val → (s.encoders.get i).homed = false) :
    s.finding a = .notChecked := by
  have unhomed : s.homedInput a = false := by
    unfold State.homedInput
    split
    · rfl
    · next i input => exact h i (AxisState.encoder_of_input input)
  rw [State.finding, unhomed]
  unfold overrunFinding
  split <;> rfl

/-- A watch timer counts by a period up to its full value while the watch holds (R95, R96). -/
theorem watchTimer_eq (timer period full : Int) (p : Prop) [Decidable p] :
    watchTimer timer period full (decide p) = if p then min (timer + period) full else 0 := by
  simp [watchTimer, lesser_eq_min]

end

/-- The idle transmitter leaves the axes alone (R152). -/
@[simp] theorem State.axis_startTransmit (s : State) (a : Axis) : s.startTransmit.axis a = s.axis a := by
  rcases startTransmit_cases s with h | ⟨-, replies, reports, tx, h⟩
  · rw [h]
  · rw [h]; rfl

/-- A computation keeps the output and the integrator within their bounds (R91 to R94). -/
theorem loopCompute_bounds (x : AxisState) (l : Loop) (ff derate : Int) (riding : Bool) (torque : 0 ≤ x.cfg.torque)
    (bus : 0 ≤ derate) (slew : 0 < x.cfg.slew) (lo : -256000 ≤ l.integ) (hi : l.integ ≤ 256000) :
    let limit := x.driveLimit derate
    let inc := x.increment (x.rateError ff) riding
    let next := clamp (l.integ + inc) (-256000) 256000
    let u := x.proportional (x.rateError ff) + Int.tdiv next 256 + x.cfg.bias
    let out := loopCompute x l ff derate riding
    0 ≤ limit ∧ -limit ≤ out.uOut ∧ out.uOut ≤ limit ∧ out.uPrev = out.uOut ∧
      -256000 ≤ out.integ ∧ out.integ ≤ 256000 ∧
      (-limit ≤ l.uPrev → l.uPrev ≤ limit →
        l.uPrev - x.cfg.slew ≤ out.uOut ∧ out.uOut ≤ l.uPrev + x.cfg.slew) ∧
      (if (limit < u ∧ 0 < inc) ∨ (u < -limit ∧ inc < 0) then out.integ = l.integ else out.integ = next) := by
  intro limit inc next u out
  have nonneg : 0 ≤ limit := AxisState.driveLimit_nonneg torque bus
  have within : -limit ≤ out.uOut ∧ out.uOut ≤ limit := shapeOutput_within_limit _ _ _ nonneg
  have bounds : -256000 ≤ out.integ ∧ out.integ ≤ 256000 := integratorDecision_bounds _ _ _ _ lo hi
  have decided : out.integ = if (limit < u ∧ 0 < inc) ∨ (u < -limit ∧ inc < 0) then l.integ else next :=
    integratorDecision_fst _ _ _ _ _
  refine ⟨nonneg, within.1, within.2, rfl, bounds.1, bounds.2,
    fun below above => shapeOutput_within_slew _ nonneg slew.le ⟨below, above⟩, ?_⟩
  split
  · next farther => rw [decided, if_pos farther]
  · next free => rw [decided, if_neg free]

/-- The fields of a computation, from its decision on the integrator (R90 to R94). -/
theorem loopCompute_fields (x : AxisState) (l : Loop) (ff derate : Int) (riding : Bool) :
    let inc := x.increment (x.rateError ff) riding
    let limit := x.driveLimit derate
    let next := clamp (l.integ + inc) (-256000) 256000
    let tried := x.proportional (x.rateError ff) + truncDiv next 256 + x.cfg.bias
    let integ := if (limit < tried ∧ 0 < inc) ∨ (tried < -limit ∧ inc < 0) then l.integ else next
    let u := x.proportional (x.rateError ff) + truncDiv integ 256 + x.cfg.bias
    let out := shapeOutput u l.uPrev limit x.cfg.slew
    (loopCompute x l ff derate riding).integ = integ ∧ (loopCompute x l ff derate riding).uOut = out ∧
      (loopCompute x l ff derate riding).uPrev = out ∧
      (loopCompute x l ff derate riding).saturated = decide (out ≠ u) := by
  intro inc limit next tried integ u out
  have decided : (integratorDecision l.integ (x.proportional (x.rateError ff)) inc x.cfg.bias limit).1 = integ :=
    integratorDecision_fst _ _ _ _ _
  have unlimited : (integratorDecision l.integ (x.proportional (x.rateError ff)) inc x.cfg.bias limit).2 = u := by
    rw [integratorDecision_snd, decided]
  have shaped : (loopCompute x l ff derate riding).uOut = out :=
    congrArg (shapeOutput · l.uPrev limit x.cfg.slew) unlimited
  refine ⟨decided, shaped, shaped, ?_⟩
  calc (loopCompute x l ff derate riding).saturated = (out != u) := congrArg₂ (· != ·) shaped unlimited
    _ = decide (out ≠ u) := by simp [bne, Bool.beq_eq_decide_eq]

/-- Settles O52, by the bounds of one computation and by what an update leaves of the loop. -/
theorem loopOutputStaysWithinTheLimit : Obligations.LoopOutputStaysWithinTheLimit := by
  unfold Obligations.LoopOutputStaysWithinTheLimit
  refine ⟨loopCompute_bounds, fun s a hp hq => ?_⟩
  intro x l riding fullTrack fullSat
  refine ⟨(s.axisUpdate a).startTransmit, rfl, ?_⟩
  rw [State.axis_startTransmit]
  intro powered
  generalize hy : (s.axisUpdate a).axis a = y at powered ⊢
  obtain ⟨track, sat, loop, trackHeld, trackFollowed, satHeld, satFollowed, condition⟩ :=
    State.axisUpdate_loop hp hq hy powered
  obtain ⟨line, head, -, -⟩ := s.stageLoop_kept a y
  intro y' head' vehicle silent
  have silent_iff : s.noVehicle x.cfg = true ↔ silent := s.noVehicle_iff _
  have riding_iff : s.riding x.cfg = true ↔ riding := s.riding_iff _
  have written : y.loop.line = l.line.set head' (s.lineWrite x.cfg) := by rw [loop]; exact line
  -- the delay line (R88), the loop under a PAUSE (R99) and computed (R86 to R96), the overrun check (R97)
  refine ⟨fun h => ?_, fun h => ?_, ?_, fun pause => ?_, fun pause => ?_, ?_⟩
  · exact written.trans (congrArg _ (if_pos (silent_iff.mpr h)))
  · exact written.trans (congrArg _ (if_neg (mt silent_iff.mp h)))
  · rw [loop]; exact head
  · have stage : s.stageLoop a y = loopPaused (s.written a) := if_pos pause
    rw [stage] at loop
    have trackKept := trackHeld (by rw [pause]; rfl)
    have satKept := satHeld pause
    rw [loop]
    exact ⟨rfl, rfl, rfl, rfl, rfl, rfl, trackKept, satKept⟩
  · have stage : s.stageLoop a y = s.computed a y := if_neg (by rw [pause]; decide)
    rw [stage] at loop
    intro hold move g
    -- from here on the statement's gain set and drive limit stand under the model's names for them
    have gains : (s.loopAxis a y).gainsInUse = g := by
      obtain ⟨stage1Hold, stage1Move⟩ := (s.axis a).beginUpdate_gains s.time
      exact congrArg₂ (fun h m : Gains => if y.gen.moving then m else h) stage1Hold stage1Move
    clear_value g
    subst gains
    intro ef slew
    have satTimer := satFollowed pause
    let ff := s.feedforward x.cfg (s.written a)
    obtain ⟨integ, out, prev, saturated⟩ :=
      loopCompute_fields (s.loopAxis a y) (s.written a) ff s.bus.derate (s.riding x.cfg)
    refine ⟨ff, (s.loopAxis a y).increment ((s.loopAxis a y).rateError ff) (s.riding x.cfg),
      fun h => ?_, fun h => ?_, ?_⟩
    · exact if_pos (silent_iff.mpr h)
    · rw [loop]
      exact if_neg (mt silent_iff.mp h)
    intro demand er
    refine ⟨fun h => if_pos (riding_iff.mpr h), fun h => if_neg (mt riding_iff.mp h), ?_⟩
    intro limit
    have drive : (s.loopAxis a y).driveLimit s.bus.derate = limit := AxisState.driveLimit_eq _ _
    clear_value limit
    subst drive
    intro next tried integ' u slewed out'
    have trackKept : riding → track = l.trackTimer := fun h => trackHeld (by rw [pause, riding_iff.mpr h]; rfl)
    have follows (h : ¬riding) := trackFollowed (by rw [pause, Bool.eq_false_iff.mpr (mt riding_iff.mp h)]; rfl)
    rw [loop]
    refine ⟨integ, out, prev, saturated, rfl, rfl, trackKept, fun h => ?_, ?_, satTimer.reached, satTimer.ended⟩
    · refine ⟨?_, (follows h).reached, (follows h).ended⟩
      refine (follows h).value.trans ?_
      rw [watchTimer_eq, magnitude_eq_abs]
      rfl
    · refine satTimer.value.trans ?_
      rw [State.computed, saturated, watchTimer_eq]
      rfl
  · intro waiting active
    have hn : x.NoHome := ⟨waiting, active⟩
    have outcome {o : Overrun} (found : s.finding a = o) :
        y.loop.overrun = o ∧ hasPresent y.faults .limitOverrun = decide (o = .beyond) := by
      rw [loop, ← found]
      exact ⟨rfl, condition⟩
    refine ⟨fun i hi homed => ?_, fun unhomed => outcome (State.finding_of_not_homed unhomed)⟩
    have finding := State.finding_of_homed hp hn hi homed
    exact ⟨fun beyond => outcome (finding.trans (if_pos beyond)), fun above below =>
      outcome (finding.trans (if_neg (not_or.mpr ⟨not_lt.mpr above, not_lt.mpr below⟩)))⟩

end Sys2Proof.Machine

namespace Sys2Proof.Machine

/-! ### Levels, fault sets and what a reaction leaves of them

The rules of one fault set, and what the Fault Monitor's reactions do to the set of the axis they act on: no more than the
loop's stop, which ends the conditions of its three watches (R100, R126). -/

@[simp] theorem Level.code_sup (a b : Level) : (a.sup b).code = max a.code b.code := by
  unfold Level.sup
  split <;> omega

theorem Level.code_injective {a b : Level} (h : a.code = b.code) : a = b := by
  revert h
  cases a <;> cases b <;> decide

@[simp] theorem Reactions.get_set_same (r : Reactions) (k : FaultKind) (l : Level) : (r.set k l).get k = l := by
  cases k <;> rfl

theorem Reactions.get_set_ne (r : Reactions) {j k : FaultKind} (l : Level) (h : j ≠ k) :
    (r.set k l).get j = r.get j := by
  cases k <;> cases j <;> simp [Reactions.get, Reactions.set] at h ⊢

/-! #### One fault set -/

/-- A fault set holds one entry of a kind at most, each of them lawful (R123, R124). -/
def FaultSetLawful (l : List FaultEntry) : Prop := (l.map (·.kind)).Nodup ∧ ∀ e ∈ l, e.lawful

theorem FaultSetLawful.empty : FaultSetLawful [] := ⟨List.nodup_nil, fun _ h => nomatch h⟩

section

variable {l : List FaultEntry} (h : FaultSetLawful l)

include h

/-- A change of the entries that keeps their kinds and keeps each of them lawful. -/
theorem FaultSetLawful.changed {f : FaultEntry → FaultEntry} (kind : ∀ e, (f e).kind = e.kind)
    (entry : ∀ e, e.lawful → (f e).lawful) : FaultSetLawful (l.map f) := by
  obtain ⟨nodup, lawful⟩ := h
  refine ⟨?_, List.forall_mem_map.mpr fun e he => entry e (lawful e he)⟩
  have kinds : (l.map f).map (·.kind) = l.map (·.kind) := by
    rw [List.map_map]
    exact List.map_congr_left fun e _ => kind e
  rwa [kinds]

theorem FaultSetLawful.flagged (k : FaultKind) (b : Bool) : FaultSetLawful (setPresent l k b) :=
  h.changed (fun e => by split <;> rfl) fun e he => by split <;> exact he

theorem FaultSetLawful.filtered (p : FaultEntry → Bool) : FaultSetLawful (l.filter p) :=
  ⟨h.1.sublist (List.filter_sublist.map _), fun e he => h.2 e (List.mem_of_mem_filter he)⟩

/-- A raise of a kind whose stored level is lawful (R119, R123, R124). -/
theorem FaultSetLawful.raised {k : FaultKind} {stored : Level} (hs : (lowestLevel k).code ≤ stored.code) (now : Time) :
    FaultSetLawful (raiseInSet l k stored now) := by
  unfold raiseInSet
  split
  · refine h.changed (fun e => by split <;> rfl) fun e he => ?_
    split
    · obtain ⟨low, high, level⟩ := he
      refine ⟨?_, ?_, ?_⟩
      · dsimp only [reraised]; split <;> omega
      · dsimp only [reraised]; split <;> omega
      · simp only [reraised, Level.code_sup]; omega
    · exact he
  · next absent =>
    obtain ⟨nodup, lawful⟩ := h
    constructor
    · rw [List.map_append]
      refine nodup.append (List.nodup_singleton _) (List.disjoint_singleton.mpr fun held => absent ?_)
      obtain ⟨e, he, hk⟩ := List.mem_map.mp held
      exact List.any_eq_true.mpr ⟨e, he, beq_iff_eq.mpr hk⟩
    · intro e he
      rcases List.mem_append.mp he with he | he
      · exact lawful e he
      · rw [List.mem_singleton.mp he]
        exact ⟨le_refl 1, by simp [newEntry], hs⟩

end

theorem AxisState.endLoopConditions_faults_congr {x y : AxisState} (h : x.faults = y.faults) :
    x.endLoopConditions.faults = y.endLoopConditions.faults := by
  simp only [AxisState.endLoopConditions, AxisState.setCondition, h]

/-- The loop's stop flags entries, and no more (R100). -/
theorem FaultSetLawful.loopStopped {x : AxisState} (h : FaultSetLawful x.faults) :
    FaultSetLawful x.endLoopConditions.faults :=
  ((h.flagged .tracking false).flagged .saturation false).flagged .limitOverrun false

/-- The loop's stop leaves the flags of the kinds that are not its watches'. -/
theorem hasPresent_endLoopConditions {k : FaultKind} (ht : k ≠ .tracking) (hs : k ≠ .saturation)
    (hl : k ≠ .limitOverrun) (x : AxisState) : hasPresent x.endLoopConditions.faults k = hasPresent x.faults k := by
  calc hasPresent x.endLoopConditions.faults k
      = hasPresent (setPresent (setPresent x.faults .tracking false) .saturation false) k :=
        hasPresent_setPresent_ne _ _ hl
    _ = hasPresent (setPresent x.faults .tracking false) k := hasPresent_setPresent_ne _ _ hs
    _ = hasPresent x.faults k := hasPresent_setPresent_ne _ _ ht

/-! #### The fault set of the axis that an operation acts on -/

section

variable (s : State) (a : Axis)

theorem State.leavePowered_faults :
    ((s.leavePowered a).axis a).faults = (s.axis a).endLoopConditions.faults := by
  have capture := State.faults_of_seqRest (s.setCapture_seqRest a false) a
  rw [State.leavePowered, State.axis_modAxis_same]
  exact AxisState.endLoopConditions_faults_congr capture

theorem State.enterFaulted_faults :
    ((s.enterFaulted a).axis a).faults = (s.axis a).endLoopConditions.faults := by
  have flushed := State.faults_of_seqRest (s.flushAll_seqRest a .stoppedByFault) a
  simp only [State.enterFaulted, State.setBrake, State.setLife, State.axis_modAxis_same]
  rw [State.leavePowered_faults]
  exact AxisState.endLoopConditions_faults_congr flushed

theorem State.abortTest_faults : ((s.abortTest a).axis a).faults = (s.axis a).faults := by
  unfold State.abortTest
  split
  · simp [State.testDone, State.clearTest, State.placeDrive, AxisState.modDrive]
  · rfl

/-- A reaction leaves the fault set of its axis, but for the loop's stop (R16, R100, R120). -/
theorem State.react_faults (l : Level) :
    ((s.react a l).axis a).faults = (s.axis a).faults ∨
      ((s.react a l).axis a).faults = (s.axis a).endLoopConditions.faults := by
  have drive : ∀ (u : State) (f : Drive → Drive), ((u.modAxis a fun x => x.modDrive f).axis a).faults =
      (u.axis a).faults := fun u f => by simp [AxisState.modDrive]
  match l with
  | .note => exact .inl rfl
  | .derate => exact .inl rfl
  | .stop => exact .inl State.reactStop_view.2
  | .brake =>
    unfold State.react State.reactBrake
    split_ifs
    · exact .inr ((drive _ _).trans (s.enterFaulted_faults a))
    · exact .inl (s.abortTest_faults a)
    · exact .inl rfl
  | .open =>
    unfold State.react State.reactOpen
    split_ifs
    · exact .inr ((drive _ _).trans (s.enterFaulted_faults a))
    · exact .inl ((drive _ _).trans (s.abortTest_faults a))
    · exact .inl (drive _ _)
    · exact .inl rfl

end

end Sys2Proof.Machine

namespace Sys2Proof.Machine

/-! ### The fault sets through every command (R121, R123, R124)

`State.FaultsLawful` reads the reaction table and the fault set of each axis, and nothing else of the state: an operation
that writes neither keeps it as it stands. -/

section

variable {s t : State} (h : s.FaultsLawful)

include h

theorem State.FaultsLawful.of_faults (reactions : t.reactions = s.reactions)
    (faults : ∀ a, (t.axis a).faults = (s.axis a).faults) : t.FaultsLawful := by
  obtain ⟨levels, sets⟩ := h
  refine ⟨fun k => ?_, fun a => ?_⟩
  · rw [reactions]; exact levels k
  · rw [faults a]; exact sets a

theorem State.FaultsLawful.of_seqRest (e : t.seqRest = s.seqRest) : t.FaultsLawful :=
  h.of_faults (State.reactions_of_seqRest e) (State.faults_of_seqRest e)

/-- An operation of one axis keeps the fault sets lawful if it keeps the set of that axis lawful. -/
theorem State.FaultsLawful.of_axis {a : Axis} (device : t.deviceRest = s.deviceRest)
    (others : t.othersRest a = s.othersRest a) (own : FaultSetLawful (t.axis a).faults) : t.FaultsLawful := by
  obtain ⟨levels, sets⟩ := h
  obtain ⟨-, reactions, -⟩ := State.blocks_of_deviceRest device
  refine ⟨fun k => ?_, fun b => ?_⟩
  · rw [reactions]; exact levels k
  · by_cases hb : b = a
    · subst hb; exact own
    · obtain ⟨-, -, -, -, faults, -⟩ := AxisState.parts_of_seqRest (State.axis_of_othersRest others hb)
      rw [faults]; exact sets b

theorem State.FaultsLawful.of_own_faults {a : Axis} (device : t.deviceRest = s.deviceRest)
    (others : t.othersRest a = s.othersRest a) (own : (t.axis a).faults = (s.axis a).faults) : t.FaultsLawful :=
  h.of_axis device others (own ▸ h.2 a)

theorem State.FaultsLawful.modAxis (a : Axis) {f : AxisState → AxisState}
    (hf : FaultSetLawful (s.axis a).faults → FaultSetLawful (f (s.axis a)).faults) : (s.modAxis a f).FaultsLawful :=
  h.of_axis rfl (s.modAxis_othersRest a f) (by rw [State.axis_modAxis_same]; exact hf (h.2 a))

theorem State.FaultsLawful.modAxis_kept (a : Axis) {f : AxisState → AxisState} (hf : ∀ x, (f x).faults = x.faults) :
    (s.modAxis a f).FaultsLawful :=
  h.modAxis a fun own => (hf _).symm ▸ own

theorem State.FaultsLawful.modAxes {f : AxisState → AxisState}
    (hf : ∀ x, FaultSetLawful x.faults → FaultSetLawful (f x).faults) : (s.modAxes f).FaultsLawful :=
  ⟨h.1, fun a => by rw [State.axis_modAxes]; exact hf _ (h.2 a)⟩

theorem State.FaultsLawful.startTransmit : s.startTransmit.FaultsLawful :=
  h.of_own_faults s.startTransmit_deviceRest (s.startTransmit_othersRest 0) (by rw [State.axis_startTransmit])

theorem State.FaultsLawful.endCondition (k : FaultKind) : (s.endCondition k).FaultsLawful :=
  h.modAxes fun _ own => own.flagged k false

theorem State.FaultsLawful.setCondition (a : Axis) (k : FaultKind) (b : Bool) :
    (s.modAxis a fun x => x.setCondition k b).FaultsLawful :=
  h.modAxis a fun own => own.flagged k b

theorem State.FaultsLawful.queueEvent (k : EventKind) : (s.queueEvent k).FaultsLawful := h

theorem State.FaultsLawful.judge (l : List Axis) : (s.judge l).FaultsLawful := h.of_seqRest (s.judge_seqRest l)

theorem State.FaultsLawful.setLife (a : Axis) (l : Life) : (s.setLife a l).FaultsLawful :=
  h.modAxis_kept a fun _ => rfl

theorem State.FaultsLawful.requestDrive (a : Axis) (st : DriveState) : (s.requestDrive a st).FaultsLawful :=
  h.modAxis_kept a fun _ => rfl

theorem State.FaultsLawful.placeDrive (a : Axis) (st : DriveState) : (s.placeDrive a st).FaultsLawful :=
  h.modAxis_kept a fun _ => rfl

/-- A kind stored at a level that is not below its lowest (R122). -/
theorem State.FaultsLawful.setReaction {k : FaultKind} {l : Level} (hl : (lowestLevel k).code ≤ l.code) :
    State.FaultsLawful { s with reactions := s.reactions.set k l } := by
  refine ⟨fun j => ?_, h.2⟩
  by_cases hj : j = k
  · subst hj; rw [Reactions.get_set_same]; exact hl
  · rw [Reactions.get_set_ne _ _ hj]; exact h.1 j

end

/-- Steps that each keep the fault sets lawful keep them lawful together. -/
theorem State.FaultsLawful.foldl {α : Type} {f : State → α → State}
    (hf : ∀ s x, s.FaultsLawful → (f s x).FaultsLawful) (l : List α) {s : State} (h : s.FaultsLawful) :
    (l.foldl f s).FaultsLawful := by
  induction l generalizing s with
  | nil => exact h
  | cons x l ih => exact ih (hf s x h)

/-- The defaults of section 7.1 with empty fault sets are lawful. -/
theorem State.FaultsLawful.of_blank {s : State} (reactions : s.reactions = .default)
    (faults : ∀ a, (s.axis a).faults = []) : s.FaultsLawful := by
  refine ⟨fun k => ?_, fun a => ?_⟩
  · rw [reactions]; cases k <;> decide
  · rw [faults a]; exact FaultSetLawful.empty

section

variable {s : State} (h : s.FaultsLawful)

include h

/-! #### The Fault Monitor -/

/-- A raise of a kind enters it in the set of its axis; the reaction and the overcurrent of an IDLE axis flag entries
(R119, R127). -/
theorem State.FaultsLawful.raise (a : Axis) (k : FaultKind) : (s.raise a k).FaultsLawful := by
  have entered : (s.raiseEntry a k).FaultsLawful := h.modAxis a fun own => own.raised (h.1 k) s.time
  have reacted : ∀ l, ((s.raiseEntry a k).react a l).FaultsLawful := fun l => by
    refine entered.of_axis (State.react_deviceRest _ _ _) (State.react_othersRest _ _ _) ?_
    rcases (s.raiseEntry a k).react_faults a l with e | e
    · rw [e]; exact entered.2 a
    · rw [e]; exact FaultSetLawful.loopStopped (entered.2 a)
  unfold State.raise State.settleOvercurrent
  split
  · dsimp only
    split
    · exact (reacted _).setCondition a _ _
    · exact reacted _
  · exact h

theorem State.FaultsLawful.raiseEach (order : List Axis) (k : FaultKind) (p : AxisState → Bool) :
    (s.raiseEach order k p).FaultsLawful :=
  State.FaultsLawful.foldl (fun _ a hu => (hu.raise a k).startTransmit) _
    (s := s.handOver (raisesLater order (s.axesWhere p)) k) h

theorem State.FaultsLawful.faultRaise (a : Axis) (k : FaultKind) : (s.faultRaise a k).FaultsLawful := by
  have raised : ((s.takeOwed a k).raise a k).FaultsLawful := State.FaultsLawful.raise (s := s.takeOwed a k) h a k
  unfold State.faultRaise State.settleOwed
  split
  · exact (raised.setCondition a k false).startTransmit
  · exact raised.startTransmit

theorem State.FaultsLawful.clearAxis (a : Axis) : (s.clearAxis a).FaultsLawful := by
  have cleared : (s.modAxis a fun x => { x with faults := x.faults.filter (keepsEntry x.life) }).FaultsLawful :=
    h.modAxis a fun own => own.filtered _
  unfold State.clearAxis State.clearTransition
  split
  · exact cleared
  · split
    · exact (cleared.setLife a .idle).requestDrive a .open
    · exact (cleared.setLife a .tracking).judge [a]
    · exact cleared

/-! #### The update of an axis (R69) -/

theorem State.FaultsLawful.measure (a : Axis) : (s.measure a).FaultsLawful := by
  obtain ⟨m, measured⟩ := s.measure_axis a
  exact h.of_own_faults (s.measure_deviceRest a) (s.measure_othersRest a) (by rw [measured])

theorem State.FaultsLawful.staleCheck (a : Axis) : (s.staleCheck a).FaultsLawful := by
  unfold State.staleCheck
  split
  · exact h.raise a _
  · exact h

theorem State.FaultsLawful.trackingWatch (a : Axis) : (s.trackingWatch a).FaultsLawful := by
  have counted : ∀ (t : Int) (b : Bool), (s.modAxis a fun x =>
      { x with loop := { x.loop with trackTimer := t } }.setCondition .tracking b).FaultsLawful :=
    fun t b => h.modAxis a fun own => own.flagged .tracking b
  unfold State.trackingWatch
  dsimp only
  split_ifs
  · exact h
  · exact (counted _ _).raise a _
  · exact counted _ _

theorem State.FaultsLawful.saturationWatch (a : Axis) : (s.saturationWatch a).FaultsLawful := by
  have counted : ∀ (t : Int) (b : Bool), (s.modAxis a fun x =>
      { x with loop := { x.loop with satTimer := t } }.setCondition .saturation b).FaultsLawful :=
    fun t b => h.modAxis a fun own => own.flagged .saturation b
  unfold State.saturationWatch
  dsimp only
  split_ifs
  · exact h
  · exact (counted _ _).raise a _
  · exact counted _ _

theorem State.FaultsLawful.overrunWatch (a : Axis) (joint : Option Int) (homed home : Bool) :
    (s.overrunWatch a joint homed home).FaultsLawful := by
  have found : ∀ o : Overrun, (s.modAxis a fun x => { x with loop := { x.loop with overrun := o } }).FaultsLawful :=
    fun o => h.modAxis_kept a fun _ => rfl
  unfold State.overrunWatch
  dsimp only
  split_ifs
  · exact found _
  · exact (found _).raise a _
  · exact (found _).setCondition a _ _

theorem State.FaultsLawful.ifPowered (a : Axis) {f : State → State} (hf : s.FaultsLawful → (f s).FaultsLawful) :
    (s.ifPowered a f).FaultsLawful := by
  unfold State.ifPowered
  split
  · exact hf h
  · exact h

theorem State.FaultsLawful.laterStages (a : Axis) (p : Int) (reloaded homed : Bool) (joint : Option Int)
    (hold move : Gains) : (s.laterStages a p reloaded homed joint hold move).FaultsLawful := by
  have sequenced : (s.sequencerStep a reloaded).FaultsLawful := h.of_seqRest (s.sequencerStep_seqRest a reloaded)
  have setpoint : ((s.sequencerStep a reloaded).setpointStage a reloaded homed).FaultsLawful :=
    sequenced.of_own_faults (State.setpointStage_deviceRest _ _ _ _) (State.setpointStage_othersRest _ _ _ _)
      (congrArg LoopBasis.faults (State.setpointStage_loopBasis _ _ _ _))
  have decel := setpoint.of_own_faults (State.decelTest_deviceRest _ a) (State.decelTest_othersRest _ a)
    (congrArg LoopBasis.faults (State.decelTest_loopBasis _ a))
  have marked := decel.of_own_faults (State.markStage_deviceRest _ a p reloaded)
    (State.markStage_othersRest _ a p reloaded) (congrArg LoopBasis.faults (State.markStage_loopBasis _ a p reloaded))
  have handed := (marked.of_own_faults (State.loopStage_deviceRest _ a hold move)
    (State.loopStage_othersRest _ a hold move) (by simp [State.loopStage])).modAxis_kept a
      (f := AxisState.handOff) fun _ => rfl
  exact ((handed.trackingWatch a).ifPowered a fun hu => hu.saturationWatch a).ifPowered a fun hu =>
    hu.overrunWatch a _ _ _

theorem State.FaultsLawful.axisUpdate (a : Axis) : (s.axisUpdate a).FaultsLawful := by
  have begun : (s.modAxis a fun x => x.beginUpdate s.time).FaultsLawful :=
    h.modAxis_kept a fun x => congrArg LoopBasis.faults (x.beginUpdate_kept s.time).1
  have checked := (begun.measure a).staleCheck a
  unfold State.axisUpdate
  dsimp only
  split_ifs
  · exact checked.laterStages a _ _ _ _ _ _
  · exact checked
  · exact h

/-! #### The Axis Controller -/

theorem State.FaultsLawful.flushAll (a : Axis) (o : SegOutcome) : (s.flushAll a o).FaultsLawful :=
  h.of_seqRest (s.flushAll_seqRest a o)

theorem State.FaultsLawful.enterEngage (a : Axis) : (s.enterEngage a).FaultsLawful :=
  h.of_own_faults (s.enterEngage_deviceRest a) (s.enterEngage_othersRest a)
    (by simp [State.enterEngage, State.setBrake])

theorem State.FaultsLawful.leavePowered (a : Axis) : (s.leavePowered a).FaultsLawful :=
  (h.of_seqRest (s.setCapture_seqRest a false)).modAxis a fun own => FaultSetLawful.loopStopped own

theorem State.FaultsLawful.abortTest (a : Axis) : (s.abortTest a).FaultsLawful :=
  h.of_own_faults (s.abortTest_deviceRest a) (s.abortTest_othersRest a) (s.abortTest_faults a)

theorem State.FaultsLawful.armingOver (a : Axis) : (s.armingOver a).FaultsLawful := by
  have tracking : (s.modAxis a fun x => { x with life := .tracking, armingTimer := none }).FaultsLawful :=
    h.modAxis_kept a fun _ => rfl
  unfold State.armingOver
  split
  · exact ((tracking.queueEvent (.armed a)).judge [a]).startTransmit
  · exact h

theorem State.FaultsLawful.engageOver (a : Axis) : (s.engageOver a).FaultsLawful := by
  unfold State.engageOver
  split
  · exact ((((h.requestDrive a .open).leavePowered a).setLife a .idle).queueEvent (.disarmed a)).startTransmit
  · exact h

theorem State.FaultsLawful.testOver (a : Axis) : (s.testOver a).FaultsLawful := by
  have ended : ((s.requestDrive a .open).clearTest a).FaultsLawful :=
    (h.requestDrive a .open).modAxis_kept a fun _ => rfl
  unfold State.testOver
  split
  · exact (ended.queueEvent _).startTransmit
  · exact h

theorem State.FaultsLawful.streamOver (a : Axis) : (s.streamOver a).FaultsLawful := by
  have expired : ∀ c : AxisState → StreamContext, (s.modAxis a fun x => { x with stream := c x }).FaultsLawful :=
    fun c => h.modAxis_kept a fun _ => rfl
  unfold State.streamOver State.streamExpiry
  dsimp only
  split
  · exact h
  · refine State.FaultsLawful.startTransmit ?_
    split
    · exact expired _
    · split
      · exact (expired _).queueEvent _
      · exact expired _

/-! #### The Control Link -/

theorem State.FaultsLawful.transmitEnd : s.transmitEnd.FaultsLawful := by
  unfold State.transmitEnd
  split_ifs
  · exact h
  · exact State.FaultsLawful.of_blank rfl fun a => by
      simp [State.softReset, State.axis, AxisState.softReset, AxisState.reset]
  · exact State.FaultsLawful.startTransmit (s := s.clearTx) h

theorem State.FaultsLawful.streamEntry (e : Byte × Int) : (s.streamEntry e).FaultsLawful := by
  have stored : ∀ a (c : AxisState → StreamContext), (s.modAxis a fun x => { x with stream := c x }).FaultsLawful :=
    fun a c => h.modAxis_kept a fun _ => rfl
  unfold State.streamEntry State.storeStream
  split
  · exact h
  · dsimp only
    split
    · split
      · exact stored _ _
      · split
        · exact (stored _ _).queueEvent _
        · exact stored _ _
    · exact h

theorem State.FaultsLawful.streamMessage (p : List Byte) : (s.streamMessage p).FaultsLawful := by
  unfold State.streamMessage
  split
  · exact h
  · exact State.FaultsLawful.foldl (fun _ e hu => hu.streamEntry e) _ h

theorem State.FaultsLawful.enqueueRequest (r : Request) : (s.enqueueRequest r).FaultsLawful := by
  unfold State.enqueueRequest
  split <;> exact h

theorem State.FaultsLawful.judgeFrame (b : List Byte) : (s.judgeFrame b).FaultsLawful := by
  have heard : s.linkHeard.FaultsLawful := by
    refine State.FaultsLawful.endCondition ?_ .linkSilence
    exact h
  unfold State.judgeFrame State.validFrame
  dsimp only
  split_ifs
  · exact heard.streamMessage _
  · exact heard.enqueueRequest _
  · exact h

theorem State.FaultsLawful.takeLinkCharacter (c : Byte) : (s.takeLinkCharacter c).FaultsLawful := by
  unfold State.takeLinkCharacter
  cases s.link.framer.state with
  | hunt => dsimp only; split <;> exact h
  | header => dsimp only [State.takeHeader]; split <;> split <;> exact h
  | payload => exact h
  | check =>
    dsimp only [State.takeCheck]
    split
    · exact h
    · exact State.FaultsLawful.judgeFrame (s := s.setFramer .hunt []) h _

theorem State.FaultsLawful.linkSilent (order : List Axis) : (s.linkSilent order).FaultsLawful := by
  unfold State.linkSilent
  split
  · exact h
  · exact State.FaultsLawful.raiseEach (s := { s with link := { s.link with silence := none } }) h _ _ _

theorem State.FaultsLawful.telemetryExpiry : s.telemetryExpiry.FaultsLawful := by
  unfold State.telemetryExpiry
  split
  · exact h
  · refine State.FaultsLawful.startTransmit ?_
    exact h

/-! #### The Measurement Unit -/

theorem State.FaultsLawful.abortCapture (why : AbortReason) : (s.abortCapture why).FaultsLawful := by
  unfold State.abortCapture
  split <;> exact h

theorem State.FaultsLawful.feedCapture (r : Rates) : (s.feedCapture r).FaultsLawful := by
  unfold State.feedCapture State.addSample
  split
  · exact h
  · split_ifs
    · exact h.abortCapture _
    · exact h.abortCapture _
    · exact h
    · exact h

theorem State.FaultsLawful.acceptHead (p : List Byte) : (s.acceptHead p).FaultsLawful := by
  refine State.FaultsLawful.feedCapture (State.FaultsLawful.endCondition ?_ .sensorStall) _
  exact h

theorem State.FaultsLawful.feedShock (az : Int) : (s.feedShock az).FaultsLawful := by
  unfold State.feedShock
  dsimp only
  split_ifs
  · exact h
  · refine State.FaultsLawful.abortCapture (State.FaultsLawful.queueEvent ?_ _) .shock
    exact h
  · exact h

theorem State.FaultsLawful.acceptVehicle (p : List Byte) : (s.acceptVehicle p).FaultsLawful := by
  have still : ∀ {u : State}, u.FaultsLawful → ∀ r, (u.vehicleStillness r).FaultsLawful := by
    intro u hu r
    unfold State.vehicleStillness
    split
    · exact hu.abortCapture _
    · exact hu
  refine still (State.FaultsLawful.feedShock ?_ _) _
  split <;> exact h

theorem State.FaultsLawful.setPort (p : SensorPort) (x : PortState) : (s.setPort p x).FaultsLawful := by
  cases p <;> exact h

theorem State.FaultsLawful.takeSensorCharacter (p : SensorPort) (c : Byte) :
    (s.takeSensorCharacter p c).FaultsLawful := by
  have judged : ∀ {u : State}, u.FaultsLawful → ∀ b, (u.judgeSensorFrame p b).FaultsLawful := by
    intro u hu b
    unfold State.judgeSensorFrame
    split
    · cases p with
      | head => exact hu.acceptHead b
      | vehicle => exact hu.acceptVehicle b
    · exact hu
  unfold State.takeSensorCharacter
  split
  · split
    · exact h.setPort p _
    · exact h
  · split
    · exact h.setPort p _
    · exact judged (h.setPort p _) _

theorem State.FaultsLawful.headGone (order : List Axis) : (s.headGone order).FaultsLawful := by
  unfold State.headGone
  split
  · exact h
  · refine ((State.FaultsLawful.raiseEach ?_ _ _ _).abortCapture _).startTransmit
    exact h

theorem State.FaultsLawful.vehicleGone : s.vehicleGone.FaultsLawful := by
  unfold State.vehicleGone
  split
  · exact h
  · refine (State.FaultsLawful.queueEvent ?_ _).startTransmit
    exact h

theorem State.FaultsLawful.settled : s.settled.FaultsLawful := by
  unfold State.settled
  split <;> exact h

theorem State.FaultsLawful.phaseSample (i : Input) (a b : Bool) : (s.phaseSample i a b).FaultsLawful := by
  unfold State.phaseSample State.illegal
  dsimp only
  split_ifs
  · exact h
  · exact h
  · split
    · exact h
    · exact State.FaultsLawful.raise (s := s.modEncoder i _) h _ _
  · exact h

theorem State.FaultsLawful.holdOver (i : Input) : (s.holdOver i).FaultsLawful := by
  unfold State.holdOver
  dsimp only
  split
  · exact h
  · split
    · exact h
    · exact State.FaultsLawful.setCondition (s := s.modEncoder i _) h _ _ _

theorem State.FaultsLawful.indexReload (i : Input) : (s.indexReload i).FaultsLawful := by
  unfold State.indexReload
  split
  · exact State.FaultsLawful.modAxis_kept (s := s.modEncoder i _) h _ fun _ => rfl
  · exact h

/-! #### Frame sync, bus, drive stages and stop line -/

theorem State.FaultsLawful.takeSyncLevel (level : Bool) : (s.takeSyncLevel level).FaultsLawful := by
  have restored : ∀ {u : State}, u.FaultsLawful → u.restoreSync.FaultsLawful := by
    intro u hu
    unfold State.restoreSync
    split <;> exact hu
  unfold State.takeSyncLevel
  dsimp only
  split_ifs
  · exact h
  · refine State.FaultsLawful.startTransmit (State.FaultsLawful.of_seqRest (restored ?_) (State.countEdge_seqRest _))
    exact h
  · exact h

theorem State.FaultsLawful.loseSync : s.loseSync.FaultsLawful := by
  unfold State.loseSync
  split
  · exact h
  · refine State.FaultsLawful.startTransmit (State.FaultsLawful.of_seqRest ?_ (State.syncLossStarts_seqRest _))
    exact h

theorem State.FaultsLawful.sampleBus (reading : Int) (order : List Axis) :
    (s.sampleBus reading order).FaultsLawful := by
  have condition : ∀ {u : State}, u.FaultsLawful → ∀ k b, (u.busCondition k b order).FaultsLawful := by
    intro u hu k b
    unfold State.busCondition
    split
    · exact hu.raiseEach _ _ _
    · exact hu.endCondition _
  exact condition (condition (u := s.storeBus _) h _ _) _ _

theorem State.FaultsLawful.sampleCurrent (a : Axis) (reading : Int) : (s.sampleCurrent a reading).FaultsLawful := by
  have tripped : ∀ {u : State}, u.FaultsLawful → ∀ i, (u.tripTest a i).FaultsLawful := by
    intro u hu i
    unfold State.tripTest
    split
    · exact (hu.placeDrive a .open).raise a _
    · exact hu
  have stored : ∀ i, (s.storeCurrent a i).FaultsLawful := fun i => h.modAxis_kept a fun _ => rfl
  unfold State.sampleCurrent
  split
  · refine State.FaultsLawful.startTransmit (State.FaultsLawful.modAxis_kept ?_ a fun _ => rfl)
    exact tripped (stored _) _
  · exact h.modAxis_kept a fun _ => rfl

/-- A change made on every axis in a powered state. -/
theorem State.FaultsLawful.eachPowered {f : State → Axis → State}
    (hf : ∀ u a, u.FaultsLawful → (f u a).FaultsLawful) :
    (overAxes allAxes (fun u a => if (u.axis a).life.powered then f u a else u) s).FaultsLawful :=
  State.FaultsLawful.foldl (fun u a hu => by
    split
    · exact hf u a hu
    · exact hu) _ h

theorem State.FaultsLawful.shortPowered : s.shortPowered.FaultsLawful :=
  h.eachPowered (f := fun u a => u.placeDrive a .short) fun _ a hu => hu.placeDrive a .short

theorem State.FaultsLawful.runPowered : s.runPowered.FaultsLawful :=
  h.eachPowered (f := fun u a => u.requestDrive a .run) fun _ a hu => hu.requestDrive a .run

theorem State.FaultsLawful.abortTests : s.abortTests.FaultsLawful := by
  rw [State.abortTests, overAxes]
  exact State.FaultsLawful.foldl (fun _ a hu => hu.abortTest a) allAxes h

theorem State.FaultsLawful.assertStop (order : List Axis) : (s.assertStop order).FaultsLawful := by
  have mode : ∀ {u : State}, u.FaultsLawful → ∀ m, (u.assertMode m order).FaultsLawful := by
    intro u hu m
    cases m with
    | pause =>
      refine State.FaultsLawful.queueEvent (State.FaultsLawful.shortPowered ?_) _
      exact hu
    | latch => exact hu.raiseEach _ _ _
  unfold State.assertStop
  split
  · exact h
  · refine (mode (State.FaultsLawful.abortTests ?_) _).startTransmit
    exact h

theorem State.FaultsLawful.releaseStop : s.releaseStop.FaultsLawful := by
  have mode : ∀ {u : State}, u.FaultsLawful → ∀ m, (u.releaseMode m).FaultsLawful := by
    intro u hu m
    unfold State.releaseMode
    split
    · refine State.FaultsLawful.queueEvent (State.FaultsLawful.runPowered ?_) _
      exact hu
    · exact hu.endCondition _
    · exact hu
  unfold State.releaseStop
  split
  · refine (mode ?_ _).startTransmit
    exact h
  · exact h

/-! #### Requests -/

/-- The processing of a request keeps the fault sets lawful if its owner does (R148). -/
theorem State.FaultsLawful.process (r : Request) {owner : List Byte → State → Answer}
    (ho : ∀ p, (owner p s).state.FaultsLawful) : (s.process r owner).FaultsLawful := by
  have answer : (answerRequest r owner s).state.FaultsLawful := by
    unfold answerRequest
    split
    · exact h
    · split
      · exact ho _
      · exact h
  unfold State.process
  split
  · exact State.FaultsLawful.startTransmit (s := State.finishRequest _ r _ _) answer
  · exact h

/-- A request on an axis mask keeps the fault sets lawful if what it does on one axis does (R8). -/
theorem State.FaultsLawful.maskRequest {f : State → Axis → Status × State}
    (hf : ∀ u a, u.FaultsLawful → (f u a).2.FaultsLawful) (mask : Byte) :
    (maskRequest mask f s).state.FaultsLawful := by
  have judged : ∀ (l : List Axis) (u : State), u.FaultsLawful → (judgeAxes f l u).2.FaultsLawful := by
    intro l
    induction l with
    | nil => exact fun _ hu => hu
    | cons a l ih => exact fun u hu => ih _ (hf u a hu)
  unfold Machine.maskRequest
  split
  · exact h
  · exact judged _ s h

variable (p : List Byte)

theorem State.FaultsLawful.ownSetDevice : (ownSetDevice p s).state.FaultsLawful := by
  have stored : ∀ x : Settings, (s.storeSettings x).FaultsLawful := by
    intro x
    unfold State.storeSettings State.syncOff
    dsimp only
    split
    · split
      · refine State.FaultsLawful.of_seqRest ?_ (State.syncLossStarts_seqRest _)
        exact h
      · exact h
    · exact h
  unfold Machine.ownSetDevice
  dsimp only
  split
  · exact h
  · split
    · split
      · exact h
      · exact stored _
    · exact h

/-- An applied record keeps the set with flags ended, and the record of kind NONE empties it (R4, R5). -/
theorem State.FaultsLawful.ownConfigureAxis : (ownConfigureAxis p s).state.FaultsLawful := by
  have kept : ∀ {l}, FaultSetLawful l → ∀ hold inertial, FaultSetLawful (keptFaults l hold inertial) := by
    intro l hl hold inertial
    have ended : FaultSetLawful (if hold then l else setPresent l .encoderFault false) := by
      split
      · exact hl
      · exact hl.flagged _ _
    unfold keptFaults
    dsimp only
    split
    · exact ended
    · exact ended.flagged _ _
  have applied : ∀ a r, (s.applyRecord a r).FaultsLawful := by
    intro a r
    unfold State.applyRecord
    split
    · exact h.modAxis_kept a fun _ => rfl
    · exact (h.flushAll a _).modAxis a fun own => kept own _ _
  have record : ∀ a r, (judgeRecord s a r).state.FaultsLawful := by
    intro a r
    unfold judgeRecord
    split_ifs
    · exact h
    · exact h
    · exact applied a _
  unfold Machine.ownConfigureAxis
  split
  · exact h
  · next a _ =>
    split_ifs
    · exact h
    · exact h
    · split
      · exact h
      · exact (h.flushAll a _).modAxis a fun _ => FaultSetLawful.empty
      · exact record _ _

theorem State.FaultsLawful.ownSetGains : (ownSetGains p s).state.FaultsLawful := by
  have taken : ∀ (g : StagedGain) (x : AxisState), (x.takeGains g).faults = x.faults := by
    intro g x
    unfold AxisState.takeGains
    split
    · rfl
    · exact congrArg LoopBasis.faults (AxisState.applyStaged_kept _).1
  unfold Machine.ownSetGains
  split
  · split
    · exact h
    · exact h.modAxis_kept _ (taken _)
  · exact h

theorem State.FaultsLawful.ownSetReaction : (ownSetReaction p s).state.FaultsLawful := by
  unfold Machine.ownSetReaction
  split
  · exact h.setReaction (by simp)
  · exact h

theorem State.FaultsLawful.ownSetMark : (ownSetMark p s).state.FaultsLawful := by
  unfold Machine.ownSetMark
  split
  · split
    · exact h
    · exact h.modAxis_kept _ fun _ => rfl
  · exact h

theorem State.FaultsLawful.ownSetTelemetry : (ownSetTelemetry p s).state.FaultsLawful := by
  unfold Machine.ownSetTelemetry
  split
  · exact h
  · split <;> exact h

theorem State.FaultsLawful.ownArm : (ownArm p s).state.FaultsLawful := by
  refine h.maskRequest (fun u a hu => ?_) _
  unfold armOne
  dsimp only
  split
  · exact hu.modAxis_kept a fun _ => rfl
  · exact hu

theorem State.FaultsLawful.ownStop : (ownStop p s).state.FaultsLawful := by
  refine h.maskRequest (fun u a hu => ?_) _
  unfold stopOne
  split
  · exact (hu.flushAll a _).setLife a _
  · exact hu.flushAll a _
  · exact hu
  · exact hu

theorem State.FaultsLawful.ownDisarm : (ownDisarm p s).state.FaultsLawful := by
  refine h.maskRequest (fun u a hu => ?_) _
  unfold disarmOne
  split
  · exact (hu.flushAll a _).setLife a _
  · exact hu
  · exact (hu.flushAll a _).setLife a _
  · exact (hu.flushAll a _).enterEngage a
  · exact hu.enterEngage a
  · exact hu

theorem State.FaultsLawful.ownFlush : (ownFlush p s).state.FaultsLawful := by
  unfold Machine.ownFlush
  split
  · exact h
  · refine h.maskRequest (fun u a hu => ?_) _
    unfold flushOne
    split
    · exact hu
    · dsimp only
      split
      · exact hu.flushAll a _
      · exact hu.of_seqRest (u.flushWaiting_seqRest a _)

theorem State.FaultsLawful.ownClearFaults : (ownClearFaults p s).state.FaultsLawful := by
  have cleared : ∀ (l : List Axis) (u : State), u.FaultsLawful → (clearAxes l u).2.FaultsLawful := by
    intro l
    induction l with
    | nil => exact fun _ hu => hu
    | cons a l ih =>
      intro u hu
      unfold clearAxes
      split
      · exact ih _ (hu.clearAxis a)
      · exact ih u hu
  unfold Machine.ownClearFaults
  split
  · exact h
  · exact cleared _ s h

theorem State.FaultsLawful.ownBiasCapture : (ownBiasCapture p s).state.FaultsLawful := by
  have begun : ∀ m : CaptureMode, (s.beginCapture m).FaultsLawful := by
    intro m
    unfold State.beginCapture
    dsimp only
    split
    · refine State.FaultsLawful.abortCapture ?_ _
      exact h
    · exact h
  unfold Machine.ownBiasCapture
  split
  · exact h
  · dsimp only
    split
    · exact begun _
    · exact h

theorem State.FaultsLawful.ownDriveTest : (ownDriveTest p s).state.FaultsLawful := by
  have begun : ∀ a demand ms, (s.beginTest a demand ms).FaultsLawful := fun a _ _ =>
    State.FaultsLawful.requestDrive (h.modAxis_kept a fun _ => by rfl) a .run
  unfold Machine.ownDriveTest
  split
  · exact h
  · split
    · exact h
    · exact begun _ _ _

theorem State.FaultsLawful.ownQueueSegment : (ownQueueSegment p s).state.FaultsLawful := by
  have joined : ∀ {u : State}, u.FaultsLawful → ∀ a g, (u.joinGroup a g).FaultsLawful := by
    intro u hu a g
    unfold State.joinGroup
    split
    · exact hu
    · split <;> exact hu
  have accepted : ∀ a g, (s.acceptSegment a g).FaultsLawful := by
    intro a g
    have queued : (s.modAxis a fun x => { x with waiting := x.waiting ++ [g] }).FaultsLawful :=
      h.modAxis_kept a fun _ => rfl
    unfold State.acceptSegment
    dsimp only
    split
    · exact (joined queued a g).judge [a]
    · exact joined queued a g
  unfold Machine.ownQueueSegment
  split
  · split
    · exact h
    · exact accepted _ _
  · exact h

theorem State.FaultsLawful.ownReadAxis : (ownReadAxis p s).state.FaultsLawful := by
  unfold Machine.ownReadAxis
  split <;> exact h

end

/-! #### Every command and every step -/

/-- Every command answers a state whose fault sets are lawful, from one whose fault sets are. -/
theorem State.FaultsLawful.exec {s : State} (h : s.FaultsLawful) (c : Instr) :
    ∃ t, exec c s = .next t ∧ t.FaultsLawful := by
  cases c with
  | powerOnReset stopLow fsyncHigh =>
    refine ⟨_, rfl, State.FaultsLawful.of_blank rfl fun a => ?_⟩
    simp [State.powerOn, State.axis, State.reset, AxisState.reset]
  | linkFrameComplete c => exact ⟨_, rfl, (h.takeLinkCharacter c).startTransmit⟩
  | linkFrameGap =>
    refine ⟨_, rfl, ?_⟩
    unfold State.linkGap
    split <;> exact h
  | linkFramingError => exact ⟨_, rfl, h⟩
  | unknownType type tag payload =>
    refine ⟨_, rfl, ?_⟩
    split
    · exact h.process _ fun _ => h
    · exact h
  | identify tag payload => exact ⟨_, rfl, h.process _ fun _ => h⟩
  | readStatus tag payload => exact ⟨_, rfl, h.process _ fun _ => h⟩
  | readAxis tag payload => exact ⟨_, rfl, h.process _ h.ownReadAxis⟩
  | setDevice tag payload => exact ⟨_, rfl, h.process _ h.ownSetDevice⟩
  | configureAxis tag payload => exact ⟨_, rfl, h.process _ h.ownConfigureAxis⟩
  | setGains tag payload => exact ⟨_, rfl, h.process _ h.ownSetGains⟩
  | setReaction tag payload => exact ⟨_, rfl, h.process _ h.ownSetReaction⟩
  | setMark tag payload => exact ⟨_, rfl, h.process _ h.ownSetMark⟩
  | setTelemetry tag payload => exact ⟨_, rfl, h.process _ h.ownSetTelemetry⟩
  | arm tag payload => exact ⟨_, rfl, h.process _ h.ownArm⟩
  | disarm tag payload => exact ⟨_, rfl, h.process _ h.ownDisarm⟩
  | stop tag payload => exact ⟨_, rfl, h.process _ h.ownStop⟩
  | clearFaults tag payload => exact ⟨_, rfl, h.process _ h.ownClearFaults⟩
  | biasCapture tag payload => exact ⟨_, rfl, h.process _ h.ownBiasCapture⟩
  | driveTest tag payload => exact ⟨_, rfl, h.process _ h.ownDriveTest⟩
  | reset tag payload => exact ⟨_, rfl, h.process _ fun _ => h⟩
  | queueSegment tag payload => exact ⟨_, rfl, h.process _ h.ownQueueSegment⟩
  | flush tag payload => exact ⟨_, rfl, h.process _ h.ownFlush⟩
  | transmitComplete => exact ⟨_, rfl, h.transmitEnd⟩
  | headSampleFrame c => exact ⟨_, rfl, (h.takeSensorCharacter .head c).startTransmit⟩
  | vehicleSampleFrame c => exact ⟨_, rfl, (h.takeSensorCharacter .vehicle c).startTransmit⟩
  | sensorFrameGap port => exact ⟨_, rfl, h.setPort port _⟩
  | headStale order => exact ⟨_, rfl, h.headGone order⟩
  | vehicleLost => exact ⟨_, rfl, h.vehicleGone⟩
  | settleTimerExpiry => exact ⟨_, rfl, h.settled⟩
  | shockWindowEnd => exact ⟨_, rfl, h⟩
  | encoderTransition input a b => exact ⟨_, rfl, (h.phaseSample input a b).startTransmit⟩
  | illegalTransition input => exact ⟨_, rfl, (h.phaseSample input _ _).startTransmit⟩
  | illegalHoldExpiry input => exact ⟨_, rfl, h.holdOver input⟩
  | indexEdge input => exact ⟨_, rfl, h.indexReload input⟩
  | axisUpdate axis => exact ⟨_, rfl, (h.axisUpdate axis).startTransmit⟩
  | faultRaise axis kind => exact ⟨_, rfl, h.faultRaise axis kind⟩
  | armingTimerExpiry axis => exact ⟨_, rfl, h.armingOver axis⟩
  | engageTimerExpiry axis => exact ⟨_, rfl, h.engageOver axis⟩
  | driveTestEnd axis => exact ⟨_, rfl, h.testOver axis⟩
  | streamLapse axis => exact ⟨_, rfl, h.streamOver axis⟩
  | linkSilence order => exact ⟨_, rfl, h.linkSilent order⟩
  | frameSyncEdge level => exact ⟨_, rfl, h.takeSyncLevel level⟩
  | syncLost => exact ⟨_, rfl, h.loseSync⟩
  | telemetry => exact ⟨_, rfl, h.telemetryExpiry⟩
  | busSample reading order => exact ⟨_, rfl, h.sampleBus reading order⟩
  | pwmBoundary axis => exact ⟨_, rfl, h.modAxis_kept axis fun _ => rfl⟩
  | currentSample axis reading => exact ⟨_, rfl, h.sampleCurrent axis reading⟩
  | stopLineAssertion order => exact ⟨_, rfl, h.assertStop order⟩
  | stopLineRelease => exact ⟨_, rfl, h.releaseStop⟩
  | linkCharacter c => exact ⟨_, rfl, (h.takeLinkCharacter c).startTransmit⟩
  | sensorCharacter port c => exact ⟨_, rfl, (h.takeSensorCharacter port c).startTransmit⟩
  | sensorFramingError port => exact ⟨_, rfl, h.setPort port _⟩

/-- A step is one microsecond of the device's own clock, or a command on the state that differs at most in the model's own
fields (log entry 6). -/
theorem step_cases {s t : State} (h : step s = .next t) :
    t = s.tick ∨ ∃ c pending freeCount, exec c { s with pending := pending, freeCount := freeCount } = .next t := by
  unfold step State.idleWith at h
  split at h
  · split at h
    · exact .inl (Host.Outcome.next.inj h).symm
    · exact .inr ⟨_, s.pending, s.freeCount + 1, h⟩
  · next c rest _ => exact .inr ⟨c, rest, s.freeCount, h⟩

/-- Settles O9: the tick leaves the fault sets alone, and every command keeps them lawful. -/
theorem stepKeepsFaultsLawful : Obligations.StepKeepsFaultsLawful := by
  unfold Obligations.StepKeepsFaultsLawful
  intro s t h hstep
  rcases step_cases hstep with rfl | ⟨c, pending, freeCount, run⟩
  · exact State.FaultsLawful.modAxes (s := { s with time := _, pwmPhase := _ }) h fun _ own => own
  · obtain ⟨u, answer, lawful⟩ :=
      State.FaultsLawful.exec (s := { s with pending := pending, freeCount := freeCount }) h c
    obtain rfl : u = t := Host.Outcome.next.inj (answer.symm.trans run)
    exact lawful

end Sys2Proof.Machine

namespace Sys2Proof.Machine

/-! ### SET_REACTION (R122) -/

/-- An admitted request of the length of its TYPE gets its owner's answer (R148). -/
theorem State.process_of_admits {s : State} {type : Byte} {tag : Tag} {payload : List Byte}
    (admits : s.Admits type tag payload) (length : requestLength type = some payload.length)
    (owner : List Byte → State → Answer) :
    s.process ⟨type, tag, payload⟩ owner =
      (owner payload s).state.answered type tag (owner payload s).status (owner payload s).body := by
  obtain ⟨slot, noReset, head⟩ := admits
  have can : s.canProcess ⟨type, tag, payload⟩ = true := by
    unfold State.canProcess
    cases queue : s.link.inbound with
    | nil => simp [slot, noReset]
    | cons q rest =>
      obtain rfl : q = ⟨type, tag, payload⟩ := by simpa [queue] using head
      simp [slot, noReset]
  have answer : answerRequest ⟨type, tag, payload⟩ owner s = owner payload s := by
    simp [answerRequest, length]
  rw [State.process, if_pos can, answer]
  rfl

theorem kindOfCode_kindCode (k : FaultKind) : kindOfCode (kindCode k) = some k := by cases k <;> rfl

theorem levelOfCode_code (l : Level) : levelOfCode l.code = some l := by cases l <;> rfl

theorem kindOfCode_beyond {n : Nat} (h : 9 < n) : kindOfCode n = none := by
  unfold kindOfCode
  split <;> simp at h ⊢

theorem levelOfCode_beyond {n : Nat} (h : 4 < n) : levelOfCode n = none := by
  unfold levelOfCode
  split <;> simp at h ⊢

/-- The owner of SET_REACTION on a code that names no kind or no level. -/
theorem ownSetReaction_beyond {p : List Byte} (h : 9 < (byteAt p 0).toNat ∨ 4 < (byteAt p 1).toNat) (s : State) :
    ownSetReaction p s = refuse s .badArg := by
  unfold ownSetReaction
  rcases h with h | h
  · rw [kindOfCode_beyond h]
  · rw [levelOfCode_beyond h]
    split
    · contradiction
    · rfl

/-- The owner of SET_REACTION on the codes of a kind and a level. -/
theorem ownSetReaction_of_codes {p : List Byte} {k : FaultKind} {l : Level} (hk : (byteAt p 0).toNat = kindCode k)
    (hl : (byteAt p 1).toNat = l.code) (s : State) :
    ownSetReaction p s =
      ⟨if l.code < (lowestLevel k).code then .clamped else .ok, .level (l.sup (lowestLevel k)),
        { s with reactions := s.reactions.set k (l.sup (lowestLevel k)) }⟩ := by
  have changed : (l.sup (lowestLevel k) != l) = decide (l.code < (lowestLevel k).code) := by
    have same : l.sup (lowestLevel k) = l ↔ ¬ l.code < (lowestLevel k).code := by
      constructor
      · intro e
        have code := congrArg Level.code e
        rw [Level.code_sup] at code
        omega
      · intro le
        exact Level.code_injective (by rw [Level.code_sup]; omega)
    rw [bne, Bool.beq_eq_decide_eq, decide_eq_decide.mpr same, decide_not, Bool.not_not]
  simp [ownSetReaction, hk, hl, kindOfCode_kindCode, levelOfCode_code, changed, okOrClamped]

/-- Settles O30: the level stored is the greater of the one carried and the kind's lowest. -/
theorem setReactionStoresTheLevel : Obligations.SetReactionStoresTheLevel := by
  unfold Obligations.SetReactionStoresTheLevel
  intro s tag kb lb admits
  have processed : exec (.setReaction tag [kb, lb]) s =
      .next ((ownSetReaction [kb, lb] s).state.answered 0x13 tag (ownSetReaction [kb, lb] s).status
        (ownSetReaction [kb, lb] s).body) :=
    congrArg Host.Outcome.next (State.process_of_admits admits rfl ownSetReaction)
  refine ⟨fun beyond => ?_, fun k l hk hl => ?_⟩
  · rw [processed, ownSetReaction_beyond (by exact beyond)]
    rfl
  · intro lowest
    have lowest_eq : lowest = (lowestLevel k).code := by cases k <;> rfl
    clear_value lowest
    subst lowest_eq
    refine ⟨l.sup (lowestLevel k), l.code_sup _, ?_, Reactions.get_set_same _ _ _, fun j => Reactions.get_set_ne _ _⟩
    rw [processed, ownSetReaction_of_codes (by exact hk) (by exact hl)]

end Sys2Proof.Machine

namespace Sys2Proof.Machine

/-! ### The raises of a detector, and LINK_SILENCE (R119, R153) -/

/-- A kind that no watch of the loop raises and no trip: its flag ends with its detector's condition alone (R126). -/
def DetectorKind (k : FaultKind) : Prop :=
  k ≠ .overcurrent ∧ k ≠ .tracking ∧ k ≠ .saturation ∧ k ≠ .limitOverrun

section

variable {s : State} {k : FaultKind} {a : Axis}

/-- A raise of a detector's kind on a configured axis leaves its condition present: the reaction ends no condition but
those of the loop's watches (R119, R120, R126). -/
theorem State.raise_present (hk : DetectorKind k) (configured : (s.axis a).life.configured = true) :
    hasPresent ((s.raise a k).axis a).faults k = true := by
  obtain ⟨overcurrent, tracking, saturation, overrun⟩ := hk
  have entered : hasPresent ((s.raiseEntry a k).axis a).faults k = true := by
    rw [State.raiseEntry, State.axis_modAxis_same]
    exact hasPresent_raiseInSet_same _ _ _ _
  have raised : (s.raise a k).axis a = ((s.raiseEntry a k).react a ((s.raiseEntry a k).entryLevel a k)).axis a := by
    simp [State.raise, configured, State.reportFault, State.settleOvercurrent, overcurrent]
  rw [raised]
  rcases (s.raiseEntry a k).react_faults a ((s.raiseEntry a k).entryLevel a k) with e | e
  · rw [e, entered]
  · rw [e, hasPresent_endLoopConditions tracking saturation overrun, entered]

/-- A raise, after which an idle transmitter takes a frame, leaves the other axes their rest (R119, R152). -/
theorem State.raise_seqRest_ne {b : Axis} (h : a ≠ b) :
    ((s.raise b k).startTransmit.axis a).seqRest = (s.axis a).seqRest := by
  rw [State.axis_startTransmit]
  exact State.axis_of_othersRest (s.raise_othersRest b k) h

/-- Raises leave an axis that they are not on its rest (R119). -/
theorem State.raiseAll_seqRest_of_not_mem {l : List Axis} (h : a ∉ l) :
    ((s.raiseAll l k).axis a).seqRest = (s.axis a).seqRest := by
  induction l generalizing s with
  | nil => rfl
  | cons b l ih =>
    obtain ⟨hb, hl⟩ : a ≠ b ∧ a ∉ l := by simpa using h
    exact (ih hl).trans (State.raise_seqRest_ne hb)

/-- A condition that is present stays present through further raises of its kind, on whatever axes (R124). -/
theorem State.raiseAll_keeps_present (hk : DetectorKind k) (l : List Axis)
    (present : hasPresent (s.axis a).faults k = true) : hasPresent ((s.raiseAll l k).axis a).faults k = true := by
  induction l generalizing s with
  | nil => exact present
  | cons b l ih =>
    refine ih (s := (s.raise b k).startTransmit) ?_
    by_cases hb : a = b
    · subst hb
      rw [State.axis_startTransmit]
      by_cases configured : (s.axis a).life.configured = true
      · exact State.raise_present hk configured
      · rwa [State.raise, if_neg configured]
    · obtain ⟨-, -, -, -, faults, -⟩ := AxisState.parts_of_seqRest (State.raise_seqRest_ne (s := s) (k := k) hb)
      rwa [faults]

/-- Raises leave their condition present on every configured axis that they are on (R119, R126). -/
theorem State.raiseAll_present (hk : DetectorKind k) {l : List Axis} (configured : (s.axis a).life.configured = true)
    (h : a ∈ l) : hasPresent ((s.raiseAll l k).axis a).faults k = true := by
  induction l generalizing s with
  | nil => cases h
  | cons b l ih =>
    by_cases hb : a = b
    · subst hb
      refine State.raiseAll_keeps_present (s := (s.raise a k).startTransmit) hk l ?_
      rw [State.axis_startTransmit]
      exact State.raise_present hk configured
    · obtain ⟨life, -⟩ := AxisState.parts_of_seqRest (State.raise_seqRest_ne (s := s) (k := k) hb)
      exact ih (s := (s.raise b k).startTransmit) (life ▸ configured) ((List.mem_cons.mp h).resolve_left hb)

/-! #### The raises of one event -/

variable {order : List Axis} {p : AxisState → Bool}

/-- The raises that the order leaves out wait (R119). -/
theorem State.raiseEach_owed :
    (s.raiseEach order k p).owed = s.owed ++ (raisesLater order (s.axesWhere p)).map fun a => (a, k) := by
  have device := congrArg State.owed (s.raiseEach_deviceRest order k p)
  exact device

/-- An axis that is to be raised and stands in the order has the condition present after the event (R119, R126). -/
theorem State.raiseEach_present (hk : DetectorKind k) (configured : (s.axis a).life.configured = true)
    (hp : p (s.axis a) = true) (listed : a ∈ order) : hasPresent ((s.raiseEach order k p).axis a).faults k = true :=
  State.raiseAll_present (s := s.handOver (raisesLater order (s.axesWhere p)) k) hk configured (by simp [hp, listed])

/-- An axis that is not to be raised, or does not stand in the order, keeps its rest through the event (R119). -/
theorem State.raiseEach_seqRest (h : ¬ (p (s.axis a) = true ∧ a ∈ order)) :
    ((s.raiseEach order k p).axis a).seqRest = (s.axis a).seqRest :=
  State.raiseAll_seqRest_of_not_mem (s := s.handOver (raisesLater order (s.axesWhere p)) k)
    (by simpa [and_comm] using h)

end

/-! #### LINK_SILENCE -/

theorem Life.configured_iff (l : Life) : l.configured = true ↔ l ≠ .disabled := by cases l <;> simp [Life.configured]

/-- The state with the link silence timer stopped, from which LINK_SILENCE makes its raises (R153). -/
def State.silenced (s : State) : State := { s with link := { s.link with silence := none } }

theorem State.linkSilent_of_running {s : State} (running : s.link.silence.isSome = true) (order : List Axis) :
    s.linkSilent order = s.silenced.raiseEach order .linkSilence fun x => x.life.configured :=
  if_neg (by rw [Option.isNone_eq_false_iff.mpr running]; decide)

/-- Settles O54: every configured axis of the order is raised at this event, and the others wait. -/
theorem linkSilenceRaisesOnEveryAxis : Obligations.LinkSilenceRaisesOnEveryAxis := by
  unfold Obligations.LinkSilenceRaisesOnEveryAxis
  intro s order running
  have device := s.silenced.raiseEach_deviceRest order .linkSilence fun x => x.life.configured
  obtain ⟨settings, -, -, -, -, -, -, -, -, -, inbound, silence⟩ := State.blocks_of_deviceRest device
  refine ⟨_, congrArg Host.Outcome.next (State.linkSilent_of_running running order), silence, inbound, settings, ?_,
    fun a => ?_⟩
  · have waiting : raisesLater order (s.silenced.axesWhere fun x => x.life.configured) =
        [0, 1, 2, 3].filter fun a : Axis => (s.axis a).life != .disabled && !order.contains a := by
      rw [raisesLater, State.axesWhere, List.filter_filter]
      refine List.filter_congr fun a _ => ?_
      rw [Bool.and_comm]
      exact congrArg (· && _) (Bool.eq_iff_iff.mpr ((Life.configured_iff _).trans bne_iff_ne.symm))
    rw [State.raiseEach_owed, waiting]
    rfl
  · split
    · next taken =>
      obtain ⟨enabled, listed⟩ := taken
      have configured : (s.silenced.axis a).life.configured = true := (Life.configured_iff _).mpr enabled
      exact State.raiseEach_present ⟨by decide, by decide, by decide, by decide⟩ configured configured listed
    · next left =>
      have untouched : ¬ ((s.silenced.axis a).life.configured = true ∧ a ∈ order) :=
        mt (And.imp_left (Life.configured_iff _).mp) left
      obtain ⟨life, -, -, -, faults, -⟩ := AxisState.parts_of_seqRest
        (State.raiseEach_seqRest (k := .linkSilence) (p := fun x => x.life.configured) untouched)
      exact ⟨faults, life⟩

end Sys2Proof.Machine
